-- ==== Sys2Proof/Word.lean ====
section
/-!
DEFINITION. The two widths of the machine (00_scope.md R10): a byte is 8 bits, a word 16 bits.
-/
namespace Sys2Proof

/-- 8 bits; every register but PC, every operand byte, every memory byte (10_state.md R20, R30). -/
abbrev Byte := BitVec 8

/-- 16 bits; PC and every bus address (10_state.md R23, 20_memory.md R60). -/
abbrev Word := BitVec 16

end Sys2Proof
end

