-- ==== Sys2Proof/Config.lean ====
section
/-!
DEFINITION. What is fixed for a run: the constants of 00_scope.md R7, the parameter names of R8, and the free values, each an
opaque constant with no body, so that no proof can rest on what it is.
-/
namespace Sys2Proof

/-- Nametable mirroring mode, from cartridge header byte 6 bit 0 (00_scope.md R8, 70_reset_and_hazards.md R410). -/
inductive Mirroring where
  /-- bit 0 = 0 -/
  | horizontal
  /-- bit 0 = 1 -/
  | vertical
deriving DecidableEq, Repr

/-- Whether page-cross and branch-taken extra cycles are charged (00_scope.md R8, 70_reset_and_hazards.md R404). -/
inductive ExtraCycles where
  /-- the source's own behaviour: never -/
  | baseOnly
  /-- the NMOS 6502's rule -/
  | nmos
deriving DecidableEq, Repr

/-- The fields of one trace line (60_exceptions.md R381). Their textual layout is `Config.traceFormat`. -/
structure TraceLine where
  pc : Word
  a  : Byte
  x  : Byte
  y  : Byte
  sp : Byte
  p  : Byte
deriving DecidableEq, Repr

/-- A command of the host's debugger (60_exceptions.md R380). -/
inductive DebugCommand where
  | singleStep
  | resume
deriving DecidableEq, Repr

/-- PPU clocks in a frame (00_scope.md R7, 10_state.md R42). -/
abbrev Config.frameLength : Nat := 89342

/-- The `ppu_cycle` at which VBlank is set (00_scope.md R7, 60_exceptions.md R341). -/
abbrev Config.vblankSetCycle : Nat := 82181

/-- The NMI vector (00_scope.md R7). -/
abbrev Config.nmiVector : Word := 0xFFFA#16

/-- The reset vector (00_scope.md R7). -/
abbrev Config.resetVector : Word := 0xFFFC#16

/-- The BRK vector (00_scope.md R7). -/
abbrev Config.brkVector : Word := 0xFFFE#16

/-- FREE VALUE (log entry 1). What CPU memory byte `a` holds after reset when no byte is listed for it: CPU_MEM_INIT below
0x8000 and the program data PRG in 0x8000-0xFFFF, both open parameters (10_state.md R30, 92_eei_decisions.md D3). -/
opaque Config.cpuMemInit : Nat → Byte

/-- FREE VALUE (log entry 1). What pattern/palette byte `a` holds after reset when no byte is listed for it: PPU_MEM_INIT,
with CHR in 0x0000-0x1FFF when present (10_state.md R31, D3). -/
opaque Config.ppuMemInit : Nat → Byte

/-- FREE VALUE (log entry 1). NT_INIT (10_state.md R32, D3). -/
opaque Config.ntInit : Nat → Byte

/-- FREE VALUE (log entry 1). OAM_INIT (10_state.md R33, D3). -/
opaque Config.oamInit : Nat → Byte

/-- FREE VALUE (log entry 4). The button mask the host holds at the `n`-th sample (00_scope.md R9: a draw each time it is read). -/
opaque Config.hostButtons : Nat → Byte

/-- FREE VALUE (log entry 5). The breakpoint set the host holds at the `n`-th drawn check (00_scope.md R9: a draw each time it is read;
93_implementation_defined.md I40: any value). -/
opaque Config.hostBreakpoints : Nat → List Word

/-- FREE VALUE (log entry 5). The command pending at the `n`-th drawn check, none when the host has issued none (R9, I40). -/
opaque Config.hostCommand : Nat → Option DebugCommand

/-- FREE VALUE (log entry 7). Whether tracing is on at the `n`-th drawn check (60_exceptions.md R381). -/
opaque Config.hostTracing : Nat → Bool

/-- FREE VALUE (log entry 7). TRACE_FORMAT, the textual layout of a trace line (60_exceptions.md R381, 92_eei_decisions.md D39). -/
opaque Config.traceFormat : TraceLine → String

end Sys2Proof
end

