-- ==== Sys2Proof/Syntax.lean ====
section
/-!
DEFINITION. The instruction set as syntax: one constructor per row of spec/opcode_table.json, in the table's order
(30_encoding.md R126). An operand is the value the operand bytes hold: a Byte for one operand byte `b1`, a Word for the
16-bit `b2:b1` (R101). The constructor says the mnemonic and the addressing mode (R110 to R122).
-/
namespace Sys2Proof

/-- The 151 opcodes of the CORE (R126). The docstring of each gives its opcode, its assembler form (R129) and its rule. -/
inductive Instr where
  /-- 0x00 `BRK` (IMP, R214) -/
  | brk
  /-- 0x01 `ORA ($nn,X)` (INDX, R164) -/
  | oraIndX (d : Byte)
  /-- 0x05 `ORA $nn` (ZP, R164) -/
  | oraZp (d : Byte)
  /-- 0x06 `ASL $nn` (ZP, R191) -/
  | aslZp (d : Byte)
  /-- 0x08 `PHP` (IMP, R223) -/
  | php
  /-- 0x09 `ORA #$nn` (IMM, R164) -/
  | oraImm (v : Byte)
  /-- 0x0A `ASL A` (ACC, R191) -/
  | aslAcc
  /-- 0x0D `ORA $nnnn` (ABS, R164) -/
  | oraAbs (w : Word)
  /-- 0x0E `ASL $nnnn` (ABS, R191) -/
  | aslAbs (w : Word)
  /-- 0x10 `BPL $nnnn` (REL, R206) -/
  | bpl (o : Byte)
  /-- 0x11 `ORA ($nn),Y` (INDY, R164) -/
  | oraIndY (d : Byte)
  /-- 0x15 `ORA $nn,X` (ZPX, R164) -/
  | oraZpX (d : Byte)
  /-- 0x16 `ASL $nn,X` (ZPX, R191) -/
  | aslZpX (d : Byte)
  /-- 0x18 `CLC` (IMP, R226) -/
  | clc
  /-- 0x19 `ORA $nnnn,Y` (ABSY, R164) -/
  | oraAbsY (w : Word)
  /-- 0x1D `ORA $nnnn,X` (ABSX, R164) -/
  | oraAbsX (w : Word)
  /-- 0x1E `ASL $nnnn,X` (ABSX, R191) -/
  | aslAbsX (w : Word)
  /-- 0x20 `JSR $nnnn` (ABS, R211) -/
  | jsr (w : Word)
  /-- 0x21 `AND ($nn,X)` (INDX, R163) -/
  | andIndX (d : Byte)
  /-- 0x24 `BIT $nn` (ZP, R166) -/
  | bitZp (d : Byte)
  /-- 0x25 `AND $nn` (ZP, R163) -/
  | andZp (d : Byte)
  /-- 0x26 `ROL $nn` (ZP, R193) -/
  | rolZp (d : Byte)
  /-- 0x28 `PLP` (IMP, R225) -/
  | plp
  /-- 0x29 `AND #$nn` (IMM, R163) -/
  | andImm (v : Byte)
  /-- 0x2A `ROL A` (ACC, R193) -/
  | rolAcc
  /-- 0x2C `BIT $nnnn` (ABS, R166) -/
  | bitAbs (w : Word)
  /-- 0x2D `AND $nnnn` (ABS, R163) -/
  | andAbs (w : Word)
  /-- 0x2E `ROL $nnnn` (ABS, R193) -/
  | rolAbs (w : Word)
  /-- 0x30 `BMI $nnnn` (REL, R204) -/
  | bmi (o : Byte)
  /-- 0x31 `AND ($nn),Y` (INDY, R163) -/
  | andIndY (d : Byte)
  /-- 0x35 `AND $nn,X` (ZPX, R163) -/
  | andZpX (d : Byte)
  /-- 0x36 `ROL $nn,X` (ZPX, R193) -/
  | rolZpX (d : Byte)
  /-- 0x38 `SEC` (IMP, R230) -/
  | sec
  /-- 0x39 `AND $nnnn,Y` (ABSY, R163) -/
  | andAbsY (w : Word)
  /-- 0x3D `AND $nnnn,X` (ABSX, R163) -/
  | andAbsX (w : Word)
  /-- 0x3E `ROL $nnnn,X` (ABSX, R193) -/
  | rolAbsX (w : Word)
  /-- 0x40 `RTI` (IMP, R213) -/
  | rti
  /-- 0x41 `EOR ($nn,X)` (INDX, R165) -/
  | eorIndX (d : Byte)
  /-- 0x45 `EOR $nn` (ZP, R165) -/
  | eorZp (d : Byte)
  /-- 0x46 `LSR $nn` (ZP, R192) -/
  | lsrZp (d : Byte)
  /-- 0x48 `PHA` (IMP, R222) -/
  | pha
  /-- 0x49 `EOR #$nn` (IMM, R165) -/
  | eorImm (v : Byte)
  /-- 0x4A `LSR A` (ACC, R192) -/
  | lsrAcc
  /-- 0x4C `JMP $nnnn` (ABS, R209) -/
  | jmpAbs (w : Word)
  /-- 0x4D `EOR $nnnn` (ABS, R165) -/
  | eorAbs (w : Word)
  /-- 0x4E `LSR $nnnn` (ABS, R192) -/
  | lsrAbs (w : Word)
  /-- 0x50 `BVC $nnnn` (REL, R207) -/
  | bvc (o : Byte)
  /-- 0x51 `EOR ($nn),Y` (INDY, R165) -/
  | eorIndY (d : Byte)
  /-- 0x55 `EOR $nn,X` (ZPX, R165) -/
  | eorZpX (d : Byte)
  /-- 0x56 `LSR $nn,X` (ZPX, R192) -/
  | lsrZpX (d : Byte)
  /-- 0x58 `CLI` (IMP, R228) -/
  | cli
  /-- 0x59 `EOR $nnnn,Y` (ABSY, R165) -/
  | eorAbsY (w : Word)
  /-- 0x5D `EOR $nnnn,X` (ABSX, R165) -/
  | eorAbsX (w : Word)
  /-- 0x5E `LSR $nnnn,X` (ABSX, R192) -/
  | lsrAbsX (w : Word)
  /-- 0x60 `RTS` (IMP, R212) -/
  | rts
  /-- 0x61 `ADC ($nn,X)` (INDX, R161) -/
  | adcIndX (d : Byte)
  /-- 0x65 `ADC $nn` (ZP, R161) -/
  | adcZp (d : Byte)
  /-- 0x66 `ROR $nn` (ZP, R194) -/
  | rorZp (d : Byte)
  /-- 0x68 `PLA` (IMP, R224) -/
  | pla
  /-- 0x69 `ADC #$nn` (IMM, R161) -/
  | adcImm (v : Byte)
  /-- 0x6A `ROR A` (ACC, R194) -/
  | rorAcc
  /-- 0x6C `JMP ($nnnn)` (IND, R210) -/
  | jmpInd (w : Word)
  /-- 0x6D `ADC $nnnn` (ABS, R161) -/
  | adcAbs (w : Word)
  /-- 0x6E `ROR $nnnn` (ABS, R194) -/
  | rorAbs (w : Word)
  /-- 0x70 `BVS $nnnn` (REL, R208) -/
  | bvs (o : Byte)
  /-- 0x71 `ADC ($nn),Y` (INDY, R161) -/
  | adcIndY (d : Byte)
  /-- 0x75 `ADC $nn,X` (ZPX, R161) -/
  | adcZpX (d : Byte)
  /-- 0x76 `ROR $nn,X` (ZPX, R194) -/
  | rorZpX (d : Byte)
  /-- 0x78 `SEI` (IMP, R232) -/
  | sei
  /-- 0x79 `ADC $nnnn,Y` (ABSY, R161) -/
  | adcAbsY (w : Word)
  /-- 0x7D `ADC $nnnn,X` (ABSX, R161) -/
  | adcAbsX (w : Word)
  /-- 0x7E `ROR $nnnn,X` (ABSX, R194) -/
  | rorAbsX (w : Word)
  /-- 0x81 `STA ($nn,X)` (INDX, R143) -/
  | staIndX (d : Byte)
  /-- 0x84 `STY $nn` (ZP, R145) -/
  | styZp (d : Byte)
  /-- 0x85 `STA $nn` (ZP, R143) -/
  | staZp (d : Byte)
  /-- 0x86 `STX $nn` (ZP, R144) -/
  | stxZp (d : Byte)
  /-- 0x88 `DEY` (IMP, R176) -/
  | dey
  /-- 0x8A `TXA` (IMP, R148) -/
  | txa
  /-- 0x8C `STY $nnnn` (ABS, R145) -/
  | styAbs (w : Word)
  /-- 0x8D `STA $nnnn` (ABS, R143) -/
  | staAbs (w : Word)
  /-- 0x8E `STX $nnnn` (ABS, R144) -/
  | stxAbs (w : Word)
  /-- 0x90 `BCC $nnnn` (REL, R201) -/
  | bcc (o : Byte)
  /-- 0x91 `STA ($nn),Y` (INDY, R143) -/
  | staIndY (d : Byte)
  /-- 0x94 `STY $nn,X` (ZPX, R145) -/
  | styZpX (d : Byte)
  /-- 0x95 `STA $nn,X` (ZPX, R143) -/
  | staZpX (d : Byte)
  /-- 0x96 `STX $nn,Y` (ZPY, R144) -/
  | stxZpY (d : Byte)
  /-- 0x98 `TYA` (IMP, R149) -/
  | tya
  /-- 0x99 `STA $nnnn,Y` (ABSY, R143) -/
  | staAbsY (w : Word)
  /-- 0x9A `TXS` (IMP, R151) -/
  | txs
  /-- 0x9D `STA $nnnn,X` (ABSX, R143) -/
  | staAbsX (w : Word)
  /-- 0xA0 `LDY #$nn` (IMM, R142) -/
  | ldyImm (v : Byte)
  /-- 0xA1 `LDA ($nn,X)` (INDX, R140) -/
  | ldaIndX (d : Byte)
  /-- 0xA2 `LDX #$nn` (IMM, R141) -/
  | ldxImm (v : Byte)
  /-- 0xA4 `LDY $nn` (ZP, R142) -/
  | ldyZp (d : Byte)
  /-- 0xA5 `LDA $nn` (ZP, R140) -/
  | ldaZp (d : Byte)
  /-- 0xA6 `LDX $nn` (ZP, R141) -/
  | ldxZp (d : Byte)
  /-- 0xA8 `TAY` (IMP, R147) -/
  | tay
  /-- 0xA9 `LDA #$nn` (IMM, R140) -/
  | ldaImm (v : Byte)
  /-- 0xAA `TAX` (IMP, R146) -/
  | tax
  /-- 0xAC `LDY $nnnn` (ABS, R142) -/
  | ldyAbs (w : Word)
  /-- 0xAD `LDA $nnnn` (ABS, R140) -/
  | ldaAbs (w : Word)
  /-- 0xAE `LDX $nnnn` (ABS, R141) -/
  | ldxAbs (w : Word)
  /-- 0xB0 `BCS $nnnn` (REL, R202) -/
  | bcs (o : Byte)
  /-- 0xB1 `LDA ($nn),Y` (INDY, R140) -/
  | ldaIndY (d : Byte)
  /-- 0xB4 `LDY $nn,X` (ZPX, R142) -/
  | ldyZpX (d : Byte)
  /-- 0xB5 `LDA $nn,X` (ZPX, R140) -/
  | ldaZpX (d : Byte)
  /-- 0xB6 `LDX $nn,Y` (ZPY, R141) -/
  | ldxZpY (d : Byte)
  /-- 0xB8 `CLV` (IMP, R229) -/
  | clv
  /-- 0xB9 `LDA $nnnn,Y` (ABSY, R140) -/
  | ldaAbsY (w : Word)
  /-- 0xBA `TSX` (IMP, R150) -/
  | tsx
  /-- 0xBC `LDY $nnnn,X` (ABSX, R142) -/
  | ldyAbsX (w : Word)
  /-- 0xBD `LDA $nnnn,X` (ABSX, R140) -/
  | ldaAbsX (w : Word)
  /-- 0xBE `LDX $nnnn,Y` (ABSY, R141) -/
  | ldxAbsY (w : Word)
  /-- 0xC0 `CPY #$nn` (IMM, R170) -/
  | cpyImm (v : Byte)
  /-- 0xC1 `CMP ($nn,X)` (INDX, R168) -/
  | cmpIndX (d : Byte)
  /-- 0xC4 `CPY $nn` (ZP, R170) -/
  | cpyZp (d : Byte)
  /-- 0xC5 `CMP $nn` (ZP, R168) -/
  | cmpZp (d : Byte)
  /-- 0xC6 `DEC $nn` (ZP, R172) -/
  | decZp (d : Byte)
  /-- 0xC8 `INY` (IMP, R174) -/
  | iny
  /-- 0xC9 `CMP #$nn` (IMM, R168) -/
  | cmpImm (v : Byte)
  /-- 0xCA `DEX` (IMP, R175) -/
  | dex
  /-- 0xCC `CPY $nnnn` (ABS, R170) -/
  | cpyAbs (w : Word)
  /-- 0xCD `CMP $nnnn` (ABS, R168) -/
  | cmpAbs (w : Word)
  /-- 0xCE `DEC $nnnn` (ABS, R172) -/
  | decAbs (w : Word)
  /-- 0xD0 `BNE $nnnn` (REL, R205) -/
  | bne (o : Byte)
  /-- 0xD1 `CMP ($nn),Y` (INDY, R168) -/
  | cmpIndY (d : Byte)
  /-- 0xD5 `CMP $nn,X` (ZPX, R168) -/
  | cmpZpX (d : Byte)
  /-- 0xD6 `DEC $nn,X` (ZPX, R172) -/
  | decZpX (d : Byte)
  /-- 0xD8 `CLD` (IMP, R227) -/
  | cld
  /-- 0xD9 `CMP $nnnn,Y` (ABSY, R168) -/
  | cmpAbsY (w : Word)
  /-- 0xDD `CMP $nnnn,X` (ABSX, R168) -/
  | cmpAbsX (w : Word)
  /-- 0xDE `DEC $nnnn,X` (ABSX, R172) -/
  | decAbsX (w : Word)
  /-- 0xE0 `CPX #$nn` (IMM, R169) -/
  | cpxImm (v : Byte)
  /-- 0xE1 `SBC ($nn,X)` (INDX, R162) -/
  | sbcIndX (d : Byte)
  /-- 0xE4 `CPX $nn` (ZP, R169) -/
  | cpxZp (d : Byte)
  /-- 0xE5 `SBC $nn` (ZP, R162) -/
  | sbcZp (d : Byte)
  /-- 0xE6 `INC $nn` (ZP, R171) -/
  | incZp (d : Byte)
  /-- 0xE8 `INX` (IMP, R173) -/
  | inx
  /-- 0xE9 `SBC #$nn` (IMM, R162) -/
  | sbcImm (v : Byte)
  /-- 0xEA `NOP` (IMP, R233) -/
  | nop
  /-- 0xEC `CPX $nnnn` (ABS, R169) -/
  | cpxAbs (w : Word)
  /-- 0xED `SBC $nnnn` (ABS, R162) -/
  | sbcAbs (w : Word)
  /-- 0xEE `INC $nnnn` (ABS, R171) -/
  | incAbs (w : Word)
  /-- 0xF0 `BEQ $nnnn` (REL, R203) -/
  | beq (o : Byte)
  /-- 0xF1 `SBC ($nn),Y` (INDY, R162) -/
  | sbcIndY (d : Byte)
  /-- 0xF5 `SBC $nn,X` (ZPX, R162) -/
  | sbcZpX (d : Byte)
  /-- 0xF6 `INC $nn,X` (ZPX, R171) -/
  | incZpX (d : Byte)
  /-- 0xF8 `SED` (IMP, R231) -/
  | sed
  /-- 0xF9 `SBC $nnnn,Y` (ABSY, R162) -/
  | sbcAbsY (w : Word)
  /-- 0xFD `SBC $nnnn,X` (ABSX, R162) -/
  | sbcAbsX (w : Word)
  /-- 0xFE `INC $nnnn,X` (ABSX, R171) -/
  | incAbsX (w : Word)
deriving DecidableEq, Repr

end Sys2Proof
end

