-- ==== Sys2Proof/Machine/State.lean ====
section
/-!
DEFINITION. The state of the CORE as plain data (10_state.md R20 to R50), the reasons a run can stop, and the state after reset
(R49, 70_reset_and_hazards.md R406). Fields are grouped by the part of the machine that owns them.
-/
namespace Sys2Proof.Machine

/-- The CPU registers (10_state.md R20 to R28). -/
structure Cpu where
  a  : Byte
  x  : Byte
  y  : Byte
  sp : Byte
  pc : Word
  /-- N V 1 0 D I Z C, bit 7 down to bit 0 (R25, R26) -/
  p  : Byte
  cycles : Nat
deriving DecidableEq, Repr

/-- The emitted picture, 240 rows of 256 palette bytes (R44). -/
abbrev Frame := List (List Byte)

/-- PPU registers and internal state (R34 to R44). -/
structure Ppu where
  ctrl    : Byte
  mask    : Byte
  status  : Byte
  oamaddr : Byte
  /-- the write toggle: false before the first (high) write, true before the second (R38) -/
  w : Bool
  intlAddr : Word
  buffer   : Byte
  scrollX  : Byte
  scrollY  : Byte
  /-- `ppu_cycle`, 0 to 89341 (R42) -/
  cycle : Nat
  nmiRequest : Bool
  /-- none: no frame has been emitted (R44) -/
  frame : Option Frame
  frameCount : Nat
deriving DecidableEq, Repr

/-- A memory: the bytes written since reset, addresses strictly rising. An address that is not listed holds its reset content,
which is an open parameter of the spec (Machine/Memory.lean says how it reads). -/
abbrev Memory := List Host.Cell

/-- The four byte arrays (R30 to R33). -/
structure Mems where
  cpu : Memory
  ppu : Memory
  nt  : Memory
  oam : Memory
deriving DecidableEq, Repr

/-- The bus transaction log (R45). -/
structure BusLog where
  lastRead  : Option Word
  lastWrite : Option Word
deriving DecidableEq, Repr

/-- The controller port (R46). -/
structure Pad where
  latch  : Byte
  /-- 0 to 8 -/
  cursor : Nat
  strobe : Bool
deriving DecidableEq, Repr

/-- The driver loop (R47). -/
structure Driver where
  cyclesSynced : Nat
  paused : Bool
deriving DecidableEq, Repr

/-- What is reported on the diagnostic channel (R29). -/
inductive Event where
  /-- an opcode byte that is not in the table, and its address (60_exceptions.md R300) -/
  | illegalInstruction (pc : Word) (op : Byte)
  /-- a trace line (R381) -/
  | trace (line : TraceLine)
  /-- an emitted frame (R342) -/
  | frame (f : Frame)
deriving DecidableEq, Repr

/-- Fault and diagnostic state (R29). -/
structure Diag where
  illegalSeen : Bool
  /-- oldest first -/
  events : List Event
deriving DecidableEq, Repr

/-- What the host presents at one breakpoint check (60_exceptions.md R380, R381). -/
structure DebugInput where
  /-- the PC values checked before this iteration -/
  breakpoints : List Word
  /-- the command pending at this check, none when none is -/
  command : Option DebugCommand
  /-- whether tracing is on for this iteration -/
  tracing : Bool
deriving DecidableEq, Repr

/-- THE MODEL'S OWN fields: the host inputs of 00_scope.md R9, each a draw when it is read. What the host is known to present next is
data; beyond it every draw is a free value with a number of its own (log entries 4, 5, 7). -/
structure HostInput where
  /-- known inputs of the next breakpoint checks, the next one first; past its end each check draws any value (R9, R380, I40) -/
  checks : List DebugInput
  /-- how many checks have drawn from `Config` -/
  checkDraws : Nat
  /-- the mask the host holds; none: any value at each sample (R9, R370) -/
  buttons : Option Byte
  /-- how many samples of `Config.hostButtons` have been taken -/
  draws : Nat
deriving DecidableEq, Repr

/-- THE MODEL'S OWN fields: the parameters of 00_scope.md R8 that select behaviour, fixed for a run (log entry 3). -/
structure Params where
  mirroring   : Mirroring
  extraCycles : ExtraCycles
deriving DecidableEq, Repr

/-- Everything the spec gives the machine (R49), and the model's own `host` and `params`. -/
structure State where
  cpu    : Cpu
  ppu    : Ppu
  mem    : Mems
  bus    : BusLog
  pad    : Pad
  driver : Driver
  diag   : Diag
  host   : HostInput
  params : Params
deriving DecidableEq, Repr

/-- Why the machine stops. No step of this CORE ever does (20_memory.md R75, 60_exceptions.md R301, R302). -/
inductive Fault where
  /-- A cartridge image that is too short or has bank counts outside the fixed mapping (70_reset_and_hazards.md R409). Raised by
  `loadCartridge` only, before any state exists; never by a step. Safe: the machine does the same. -/
  | romFormatError
deriving DecidableEq, Repr

/-- Why an instruction has no meaning in the model. -/
inductive Refusal where
  /-- An instruction whose arm in Machine/Dispatch.lean has no meaning yet. Raised by no arm: all 151 have their meaning. Safe. -/
  | notModelled (mnemonic : String)
deriving DecidableEq, Repr

/-- The machine right after reset (R49, 70_reset_and_hazards.md R406), with nothing listed in any memory. PC is the little-endian
word at the reset vector, which is reset content of CPU memory (log entry 2). The values of `host` and `params` are the model's
own (log entries 3, 4, 5, 7). -/
def State.reset : State where
  cpu :=
    { a := 0x00#8, x := 0x00#8, y := 0x00#8, sp := 0xFD#8,
      pc := Config.cpuMemInit 0xFFFD ++ Config.cpuMemInit 0xFFFC, p := 0x24#8, cycles := 0 }
  ppu :=
    { ctrl := 0x00#8, mask := 0x00#8, status := 0x00#8, oamaddr := 0x00#8, w := false, intlAddr := 0x0000#16, buffer := 0x00#8,
      scrollX := 0x00#8, scrollY := 0x00#8, cycle := 0, nmiRequest := false, frame := none, frameCount := 0 }
  mem := { cpu := [], ppu := [], nt := [], oam := [] }
  bus := { lastRead := none, lastWrite := none }
  pad := { latch := 0x00#8, cursor := 0, strobe := false }
  driver := { cyclesSynced := 0, paused := false }
  diag := { illegalSeen := false, events := [] }
  host := { checks := [], checkDraws := 0, buttons := none, draws := 0 }
  params := { mirroring := .vertical, extraCycles := .baseOnly }

end Sys2Proof.Machine
end

