-- ==== Sys2Proof/Machine/Flags.lean ====
section
/-!
DEFINITION. The status register's bits (10_state.md R25, R26) and every flag computation (42_arithmetic_logic.md R160 to R167,
43_shift_rotate.md R191 to R194), as functions of the status byte.
-/
namespace Sys2Proof.Machine

/-- `P.C`, bit 0 (R25). -/
def flagC (p : Byte) : Bool := p.getLsbD 0
/-- `P.Z`, bit 1 (R25). -/
def flagZ (p : Byte) : Bool := p.getLsbD 1
/-- `P.I`, bit 2 (R25). -/
def flagI (p : Byte) : Bool := p.getLsbD 2
/-- `P.D`, bit 3 (R25). -/
def flagD (p : Byte) : Bool := p.getLsbD 3
/-- `P.V`, bit 6 (R25). -/
def flagV (p : Byte) : Bool := p.getLsbD 6
/-- `P.N`, bit 7 (R25). -/
def flagN (p : Byte) : Bool := p.getLsbD 7

/-- Write one bit of a byte. -/
def setBit (n : Nat) (b : Bool) (p : Byte) : Byte := if b then p ||| (1#8 <<< n) else p &&& ~~~(1#8 <<< n)

/-- `P.C <- b`. -/
def setC (b : Bool) (p : Byte) : Byte := setBit 0 b p
/-- `P.Z <- b`. -/
def setZ (b : Bool) (p : Byte) : Byte := setBit 1 b p
/-- `P.I <- b`. -/
def setI (b : Bool) (p : Byte) : Byte := setBit 2 b p
/-- `P.D <- b`. -/
def setD (b : Bool) (p : Byte) : Byte := setBit 3 b p
/-- `P.V <- b`. -/
def setV (b : Bool) (p : Byte) : Byte := setBit 6 b p
/-- `P.N <- b`. -/
def setN (b : Bool) (p : Byte) : Byte := setBit 7 b p

/-- `NZ(v)` (00_scope.md R12). -/
def setNZ (v p : Byte) : Byte := setN (v.getLsbD 7) (setZ (v == 0#8) p)

/-- The copy of P that PHP, BRK and interrupt entry push (R26). -/
def pushedStatus (p : Byte) : Byte := p ||| 0x30#8

/-- What a whole-byte write of P stores (R26). -/
def storedStatus (v : Byte) : Byte := (v &&& 0xCF#8) ||| 0x20#8

/-- `AddCore(a, m, cin)` (42_arithmetic_logic.md R160): the result and the status after it. -/
def addCore (a m : Byte) (cin : Bool) (p : Byte) : Byte × Byte :=
  let t := a.toNat + m.toNat + cin.toNat
  let r := BitVec.ofNat 8 t
  let v := ((a ^^^ r) &&& (m ^^^ r) &&& 0x80#8) != 0#8
  (r, setNZ r (setV v (setC (decide (255 < t)) p)))

/-- The subtraction of SBC (R162, 90_conflicts.md C1): the result and the status after it. -/
def subCore (a m : Byte) (cin : Bool) (p : Byte) : Byte × Byte :=
  let t : Int := (a.toNat : Int) - m.toNat - (1 - cin.toNat)
  let r := BitVec.ofInt 8 t
  let v := ((a ^^^ r) &&& (~~~m ^^^ r) &&& 0x80#8) != 0#8
  (r, setNZ r (setV v (setC (decide (0 ≤ t)) p)))

/-- `Compare(reg, M)` (R167): only the status changes. -/
def compareCore (reg m p : Byte) : Byte :=
  let d : Int := (reg.toNat : Int) - m.toNat
  setNZ (BitVec.ofInt 8 d) (setC (decide (0 ≤ d)) p)

/-- BIT (R166): Z from `A & M`, N and V from the operand's bits 7 and 6. -/
def bitCore (a m p : Byte) : Byte :=
  setV (m.getLsbD 6) (setN (m.getLsbD 7) (setZ ((a &&& m) == 0#8) p))

/-- ASL (43_shift_rotate.md R190, R191). -/
def aslCore (m p : Byte) : Byte × Byte :=
  let r := m <<< 1
  (r, setNZ r (setC (m.getLsbD 7) p))

/-- LSR (R190, R192). -/
def lsrCore (m p : Byte) : Byte × Byte :=
  let r := m >>> 1
  (r, setNZ r (setC (m.getLsbD 0) p))

/-- ROL (R190, R193). -/
def rolCore (m p : Byte) : Byte × Byte :=
  let r := (m <<< 1) ||| (if flagC p then 1#8 else 0#8)
  (r, setNZ r (setC (m.getLsbD 7) p))

/-- ROR (R190, R194). -/
def rorCore (m p : Byte) : Byte × Byte :=
  let r := (m >>> 1) ||| (if flagC p then 0x80#8 else 0#8)
  (r, setNZ r (setC (m.getLsbD 0) p))

/-- INC (42_arithmetic_logic.md R171). -/
def incCore (m p : Byte) : Byte × Byte := (m + 1#8, setNZ (m + 1#8) p)

/-- DEC (R172). -/
def decCore (m p : Byte) : Byte × Byte := (m - 1#8, setNZ (m - 1#8) p)

end Sys2Proof.Machine
end

