-- ==== Sys2Proof/Machine/Update.lean ====
section
/-!
DEFINITION. One named update per group of the state. Every operation of the machine writes the state through these
(Laws/State.lean has one lemma per group per update). The parameters have no update: no step writes them (00_scope.md R8).
-/
namespace Sys2Proof.Machine

/-- Replace the CPU registers. -/
def State.setCpu (s : State) (c : Cpu) : State := { s with cpu := c }

/-- Replace the PPU registers. -/
def State.setPpu (s : State) (u : Ppu) : State := { s with ppu := u }

/-- Replace the memories. -/
def State.setMem (s : State) (m : Mems) : State := { s with mem := m }

/-- Replace the transaction log. -/
def State.setBus (s : State) (b : BusLog) : State := { s with bus := b }

/-- Replace the controller port. -/
def State.setPad (s : State) (d : Pad) : State := { s with pad := d }

/-- Replace the driver state. -/
def State.setDriver (s : State) (d : Driver) : State := { s with driver := d }

/-- Replace the diagnostic state. -/
def State.setDiag (s : State) (d : Diag) : State := { s with diag := d }

/-- Replace the host inputs. -/
def State.setHost (s : State) (h : HostInput) : State := { s with host := h }

/-- Append one event (10_state.md R29). -/
def emit (e : Event) (s : State) : State := s.setDiag { s.diag with events := s.diag.events ++ [e] }

end Sys2Proof.Machine
end

