-- ==== Sys2Proof/Machine/Controller.lean ====
section
/-!
DEFINITION. The controller port at 0x4016 (60_exceptions.md R370 to R372). The button mask is a host input, sampled each time a rule
reads it (log entry 4).
-/
namespace Sys2Proof.Machine

/-- One sample of the host's buttons (00_scope.md R9): the mask the host is known to hold, else a fresh free value. -/
def sampleButtons (s : State) : Byte × State :=
  match s.host.buttons with
  | some m => (m, s)
  | none => (Config.hostButtons s.host.draws, s.setHost { s.host with draws := s.host.draws + 1 })

/-- Controller write (R371): a strobe of 1 latches and rewinds; the falling strobe latches once more. -/
def writePad (v : Byte) (s : State) : State :=
  let strobe := v.getLsbD 0
  if strobe then
    let r := sampleButtons s
    r.2.setPad { latch := r.1, cursor := 0, strobe := strobe }
  else if s.pad.strobe then
    let r := sampleButtons s
    r.2.setPad { r.2.pad with latch := r.1, strobe := strobe }
  else s.setPad { s.pad with strobe := strobe }

/-- The bit the port shows: the latched bit under the cursor, 1 after the eighth (R372). -/
def padBit (d : Pad) : Bool := if d.cursor < 8 then d.latch.getLsbD d.cursor else true

/-- Controller read (R372). -/
def readPad (s : State) : Byte × State :=
  if s.pad.strobe then
    let r := sampleButtons s
    let d : Pad := { r.2.pad with latch := r.1, cursor := 0 }
    (0x40#8 ||| (if padBit d then 1#8 else 0#8), r.2.setPad d)
  else
    (0x40#8 ||| (if padBit s.pad then 1#8 else 0#8),
      if s.pad.cursor < 8 then s.setPad { s.pad with cursor := s.pad.cursor + 1 } else s)

/-- The controller's read hook (R370). -/
def padTryRead (p : Word) (s : State) : Option (Byte × State) :=
  if p = 0x4016#16 then some (readPad s) else none

/-- The controller's write hook (R370). -/
def padTryWrite (p : Word) (v : Byte) (s : State) : Option State :=
  if p = 0x4016#16 then some (writePad v s) else none

end Sys2Proof.Machine
end

