-- ==== Sys2Proof/Machine/Memory.lean ====
section
/-!
DEFINITION. The byte arrays (10_state.md R30 to R33). A `Memory` lists the bytes written since reset, addresses strictly rising.
An address that is not listed has never been written: the list itself says no value for it, and the array holds its reset content,
an open parameter of the spec (00_scope.md R8, 92_eei_decisions.md D3), which is a free value of Config (log entry 1).
-/
namespace Sys2Proof.Machine

/-- The byte written at `a` since reset, if any. -/
def Memory.get? : Memory → Nat → Option Byte
  | [], _ => none
  | (k, b) :: rest, a => if k = a then some b else Memory.get? rest a

/-- The byte at `a`: the last one written, else its reset content. -/
def Memory.readOr (init : Nat → Byte) (m : Memory) (a : Nat) : Byte := (m.get? a).getD (init a)

/-- Store a byte, keeping the addresses strictly rising. -/
def Memory.put : Memory → Nat → Byte → Memory
  | [], a, b => [(a, b)]
  | (k, c) :: rest, a, b =>
    if a < k then (a, b) :: (k, c) :: rest
    else if a = k then (a, b) :: rest
    else (k, c) :: Memory.put rest a b

/-- The addresses are strictly rising, all at least `lo` and below `size`. -/
def Memory.wfFrom (size : Nat) : Nat → Memory → Bool
  | _, [] => true
  | lo, (k, _) :: rest => decide (lo ≤ k) && decide (k < size) && Memory.wfFrom size (k + 1) rest

/-- The canonical form of an array of `size` bytes: strictly rising addresses, all inside the array. (What an unlisted address
says in the list is "no value", so no entry can equal it.) -/
def Memory.wf (size : Nat) (m : Memory) : Bool := Memory.wfFrom size 0 m

/-- Sizes of the four arrays (R30 to R33). -/
def Mems.wf (m : Mems) : Bool :=
  m.cpu.wf 0x10000 && m.ppu.wf 0x4000 && m.nt.wf 0x1000 && m.oam.wf 0x100

/-- `cpu_mem[p]` (R30). -/
def State.cpuByte (s : State) (p : Nat) : Byte := s.mem.cpu.readOr Config.cpuMemInit p

/-- `ppu_mem[c]` (R31). -/
def State.ppuByte (s : State) (c : Nat) : Byte := s.mem.ppu.readOr Config.ppuMemInit c

/-- `nt_mem[n]` (R32). -/
def State.ntByte (s : State) (n : Nat) : Byte := s.mem.nt.readOr Config.ntInit n

/-- `oam[i]` (R33). -/
def State.oamByte (s : State) (i : Nat) : Byte := s.mem.oam.readOr Config.oamInit i

/-- `cpu_mem[p] <- v`. -/
def putCpuByte (p : Nat) (v : Byte) (s : State) : State := s.setMem { s.mem with cpu := s.mem.cpu.put p v }

/-- `ppu_mem[c] <- v`. -/
def putPpuByte (c : Nat) (v : Byte) (s : State) : State := s.setMem { s.mem with ppu := s.mem.ppu.put c v }

/-- `nt_mem[n] <- v`. -/
def putNtByte (n : Nat) (v : Byte) (s : State) : State := s.setMem { s.mem with nt := s.mem.nt.put n v }

/-- `oam[i] <- v`. -/
def putOamByte (i : Nat) (v : Byte) (s : State) : State := s.setMem { s.mem with oam := s.mem.oam.put i v }

end Sys2Proof.Machine
end

