-- ==== Sys2Proof/WellFormed.lean ====
section
/-!
DEFINITION. What the syntax admits. Every field of an `Instr` is exactly as wide as its operand bytes and every operand value is
legal (30_encoding.md R100, R101, R128; 44_control_flow.md R215), so an `Instr` term is always well formed; the check that can
refuse is the assembler's, on the range of a branch (R129). The cartridge image's check (70_reset_and_hazards.md R409) stands in
Machine/Cartridge.lean.
-/
namespace Sys2Proof

/-- Well-formedness of an instruction: no operand value is reserved or illegal (R100, R128), so every term is admitted. -/
def Instr.wellFormed (_ : Instr) : Bool := true

/-- Where a branch at `pc0` may be assembled to: `-128 <= target - npc <= 127` with `npc = pc0 + 2`, as plain integers (R129). -/
def branchInRange (pc0 target : Nat) : Bool :=
  pc0 + 2 ≤ target + 128 && target ≤ pc0 + 2 + 127

/-- The offset byte of a branch from `pc0` to `target`, refused out of range (R129). -/
def branchOffset (pc0 target : Nat) : Option Byte :=
  if branchInRange pc0 target then some (BitVec.ofInt 8 ((target : Int) - (pc0 + 2))) else none

end Sys2Proof
end

