-- ==== Sys2Proof/Decode.lean ====
section
/-!
DEFINITION. Decoding and encoding (30_encoding.md R100 to R104, R125 to R128). The opcode byte alone selects the row; operand
bytes follow, low byte first. Every byte is either one of the 151 opcodes or is rejected by name as an illegal opcode.
-/
namespace Sys2Proof

/-- The 16-bit value `hi:lo` (00_scope.md R11), little-endian in memory (20_memory.md R78). -/
def wordOf (hi lo : Byte) : Word := hi ++ lo

/-- The low byte of a 16-bit value. -/
def lowByte (w : Word) : Byte := w.setWidth 8

/-- The high byte of a 16-bit value. -/
def highByte (w : Word) : Byte := (w >>> 8).setWidth 8

/-- What an opcode byte asks for next (R101): nothing, one operand byte, or two (low, then high). -/
inductive Form where
  /-- length 1 -/
  | bare (i : Instr)
  /-- length 2: `b1` -/
  | byte (mk : Byte → Instr)
  /-- length 3: `b2:b1` -/
  | word (mk : Word → Instr)

/-- The instruction length in bytes that a form stands for (R101). -/
def formLength : Form → Nat
  | .bare _ => 1
  | .byte _ => 2
  | .word _ => 3

/-- Row 0 of the opcode map (R125). -/
def opcodeRow0 : List (Byte × Form) :=
  [(0x00#8, .bare .brk),
   (0x01#8, .byte .oraIndX),
   (0x05#8, .byte .oraZp),
   (0x06#8, .byte .aslZp),
   (0x08#8, .bare .php),
   (0x09#8, .byte .oraImm),
   (0x0A#8, .bare .aslAcc),
   (0x0D#8, .word .oraAbs),
   (0x0E#8, .word .aslAbs)]

/-- Row 1 of the opcode map (R125). -/
def opcodeRow1 : List (Byte × Form) :=
  [(0x10#8, .byte .bpl),
   (0x11#8, .byte .oraIndY),
   (0x15#8, .byte .oraZpX),
   (0x16#8, .byte .aslZpX),
   (0x18#8, .bare .clc),
   (0x19#8, .word .oraAbsY),
   (0x1D#8, .word .oraAbsX),
   (0x1E#8, .word .aslAbsX)]

/-- Row 2 of the opcode map (R125). -/
def opcodeRow2 : List (Byte × Form) :=
  [(0x20#8, .word .jsr),
   (0x21#8, .byte .andIndX),
   (0x24#8, .byte .bitZp),
   (0x25#8, .byte .andZp),
   (0x26#8, .byte .rolZp),
   (0x28#8, .bare .plp),
   (0x29#8, .byte .andImm),
   (0x2A#8, .bare .rolAcc),
   (0x2C#8, .word .bitAbs),
   (0x2D#8, .word .andAbs),
   (0x2E#8, .word .rolAbs)]

/-- Row 3 of the opcode map (R125). -/
def opcodeRow3 : List (Byte × Form) :=
  [(0x30#8, .byte .bmi),
   (0x31#8, .byte .andIndY),
   (0x35#8, .byte .andZpX),
   (0x36#8, .byte .rolZpX),
   (0x38#8, .bare .sec),
   (0x39#8, .word .andAbsY),
   (0x3D#8, .word .andAbsX),
   (0x3E#8, .word .rolAbsX)]

/-- Row 4 of the opcode map (R125). -/
def opcodeRow4 : List (Byte × Form) :=
  [(0x40#8, .bare .rti),
   (0x41#8, .byte .eorIndX),
   (0x45#8, .byte .eorZp),
   (0x46#8, .byte .lsrZp),
   (0x48#8, .bare .pha),
   (0x49#8, .byte .eorImm),
   (0x4A#8, .bare .lsrAcc),
   (0x4C#8, .word .jmpAbs),
   (0x4D#8, .word .eorAbs),
   (0x4E#8, .word .lsrAbs)]

/-- Row 5 of the opcode map (R125). -/
def opcodeRow5 : List (Byte × Form) :=
  [(0x50#8, .byte .bvc),
   (0x51#8, .byte .eorIndY),
   (0x55#8, .byte .eorZpX),
   (0x56#8, .byte .lsrZpX),
   (0x58#8, .bare .cli),
   (0x59#8, .word .eorAbsY),
   (0x5D#8, .word .eorAbsX),
   (0x5E#8, .word .lsrAbsX)]

/-- Row 6 of the opcode map (R125). -/
def opcodeRow6 : List (Byte × Form) :=
  [(0x60#8, .bare .rts),
   (0x61#8, .byte .adcIndX),
   (0x65#8, .byte .adcZp),
   (0x66#8, .byte .rorZp),
   (0x68#8, .bare .pla),
   (0x69#8, .byte .adcImm),
   (0x6A#8, .bare .rorAcc),
   (0x6C#8, .word .jmpInd),
   (0x6D#8, .word .adcAbs),
   (0x6E#8, .word .rorAbs)]

/-- Row 7 of the opcode map (R125). -/
def opcodeRow7 : List (Byte × Form) :=
  [(0x70#8, .byte .bvs),
   (0x71#8, .byte .adcIndY),
   (0x75#8, .byte .adcZpX),
   (0x76#8, .byte .rorZpX),
   (0x78#8, .bare .sei),
   (0x79#8, .word .adcAbsY),
   (0x7D#8, .word .adcAbsX),
   (0x7E#8, .word .rorAbsX)]

/-- Row 8 of the opcode map (R125). -/
def opcodeRow8 : List (Byte × Form) :=
  [(0x81#8, .byte .staIndX),
   (0x84#8, .byte .styZp),
   (0x85#8, .byte .staZp),
   (0x86#8, .byte .stxZp),
   (0x88#8, .bare .dey),
   (0x8A#8, .bare .txa),
   (0x8C#8, .word .styAbs),
   (0x8D#8, .word .staAbs),
   (0x8E#8, .word .stxAbs)]

/-- Row 9 of the opcode map (R125). -/
def opcodeRow9 : List (Byte × Form) :=
  [(0x90#8, .byte .bcc),
   (0x91#8, .byte .staIndY),
   (0x94#8, .byte .styZpX),
   (0x95#8, .byte .staZpX),
   (0x96#8, .byte .stxZpY),
   (0x98#8, .bare .tya),
   (0x99#8, .word .staAbsY),
   (0x9A#8, .bare .txs),
   (0x9D#8, .word .staAbsX)]

/-- Row A of the opcode map (R125). -/
def opcodeRowA : List (Byte × Form) :=
  [(0xA0#8, .byte .ldyImm),
   (0xA1#8, .byte .ldaIndX),
   (0xA2#8, .byte .ldxImm),
   (0xA4#8, .byte .ldyZp),
   (0xA5#8, .byte .ldaZp),
   (0xA6#8, .byte .ldxZp),
   (0xA8#8, .bare .tay),
   (0xA9#8, .byte .ldaImm),
   (0xAA#8, .bare .tax),
   (0xAC#8, .word .ldyAbs),
   (0xAD#8, .word .ldaAbs),
   (0xAE#8, .word .ldxAbs)]

/-- Row B of the opcode map (R125). -/
def opcodeRowB : List (Byte × Form) :=
  [(0xB0#8, .byte .bcs),
   (0xB1#8, .byte .ldaIndY),
   (0xB4#8, .byte .ldyZpX),
   (0xB5#8, .byte .ldaZpX),
   (0xB6#8, .byte .ldxZpY),
   (0xB8#8, .bare .clv),
   (0xB9#8, .word .ldaAbsY),
   (0xBA#8, .bare .tsx),
   (0xBC#8, .word .ldyAbsX),
   (0xBD#8, .word .ldaAbsX),
   (0xBE#8, .word .ldxAbsY)]

/-- Row C of the opcode map (R125). -/
def opcodeRowC : List (Byte × Form) :=
  [(0xC0#8, .byte .cpyImm),
   (0xC1#8, .byte .cmpIndX),
   (0xC4#8, .byte .cpyZp),
   (0xC5#8, .byte .cmpZp),
   (0xC6#8, .byte .decZp),
   (0xC8#8, .bare .iny),
   (0xC9#8, .byte .cmpImm),
   (0xCA#8, .bare .dex),
   (0xCC#8, .word .cpyAbs),
   (0xCD#8, .word .cmpAbs),
   (0xCE#8, .word .decAbs)]

/-- Row D of the opcode map (R125). -/
def opcodeRowD : List (Byte × Form) :=
  [(0xD0#8, .byte .bne),
   (0xD1#8, .byte .cmpIndY),
   (0xD5#8, .byte .cmpZpX),
   (0xD6#8, .byte .decZpX),
   (0xD8#8, .bare .cld),
   (0xD9#8, .word .cmpAbsY),
   (0xDD#8, .word .cmpAbsX),
   (0xDE#8, .word .decAbsX)]

/-- Row E of the opcode map (R125). -/
def opcodeRowE : List (Byte × Form) :=
  [(0xE0#8, .byte .cpxImm),
   (0xE1#8, .byte .sbcIndX),
   (0xE4#8, .byte .cpxZp),
   (0xE5#8, .byte .sbcZp),
   (0xE6#8, .byte .incZp),
   (0xE8#8, .bare .inx),
   (0xE9#8, .byte .sbcImm),
   (0xEA#8, .bare .nop),
   (0xEC#8, .word .cpxAbs),
   (0xED#8, .word .sbcAbs),
   (0xEE#8, .word .incAbs)]

/-- Row F of the opcode map (R125). -/
def opcodeRowF : List (Byte × Form) :=
  [(0xF0#8, .byte .beq),
   (0xF1#8, .byte .sbcIndY),
   (0xF5#8, .byte .sbcZpX),
   (0xF6#8, .byte .incZpX),
   (0xF8#8, .bare .sed),
   (0xF9#8, .word .sbcAbsY),
   (0xFD#8, .word .sbcAbsX),
   (0xFE#8, .word .incAbsX)]

/-- The opcode table (R126): 151 rows, one row of the map after the other. -/
def opcodeTable : List (Byte × Form) :=
  opcodeRow0 ++ opcodeRow1 ++ opcodeRow2 ++ opcodeRow3 ++ opcodeRow4 ++ opcodeRow5 ++ opcodeRow6 ++ opcodeRow7 ++
  opcodeRow8 ++ opcodeRow9 ++ opcodeRowA ++ opcodeRowB ++ opcodeRowC ++ opcodeRowD ++ opcodeRowE ++ opcodeRowF

/-- The first row whose opcode is `op`. -/
def findRow : List (Byte × Form) → Byte → Option Form
  | [], _ => none
  | (k, f) :: rest, op => if k = op then some f else findRow rest op

/-- The row of the opcode map that a high nibble selects (R125). -/
def opcodeRow (hi : Nat) : List (Byte × Form) :=
  match hi with
  | 0 => opcodeRow0
  | 1 => opcodeRow1
  | 2 => opcodeRow2
  | 3 => opcodeRow3
  | 4 => opcodeRow4
  | 5 => opcodeRow5
  | 6 => opcodeRow6
  | 7 => opcodeRow7
  | 8 => opcodeRow8
  | 9 => opcodeRow9
  | 10 => opcodeRowA
  | 11 => opcodeRowB
  | 12 => opcodeRowC
  | 13 => opcodeRowD
  | 14 => opcodeRowE
  | _ => opcodeRowF

/-- The table entry of an opcode byte: high nibble, then byte (R125); none for the 105 illegal bytes (R127). -/
def decodeOpcode (op : Byte) : Option Form := findRow (opcodeRow (op.toNat / 16)) op

/-- The illegal encodings, as R127 lists them. -/
def illegalOpcodes : List Byte :=
  [0x02#8, 0x03#8, 0x04#8, 0x07#8, 0x0B#8, 0x0C#8, 0x0F#8, 0x12#8, 0x13#8, 0x14#8, 0x17#8, 0x1A#8, 0x1B#8, 0x1C#8, 0x1F#8, 0x22#8] ++
  [0x23#8, 0x27#8, 0x2B#8, 0x2F#8, 0x32#8, 0x33#8, 0x34#8, 0x37#8, 0x3A#8, 0x3B#8, 0x3C#8, 0x3F#8, 0x42#8, 0x43#8, 0x44#8, 0x47#8] ++
  [0x4B#8, 0x4F#8, 0x52#8, 0x53#8, 0x54#8, 0x57#8, 0x5A#8, 0x5B#8, 0x5C#8, 0x5F#8, 0x62#8, 0x63#8, 0x64#8, 0x67#8, 0x6B#8, 0x6F#8] ++
  [0x72#8, 0x73#8, 0x74#8, 0x77#8, 0x7A#8, 0x7B#8, 0x7C#8, 0x7F#8, 0x80#8, 0x82#8, 0x83#8, 0x87#8, 0x89#8, 0x8B#8, 0x8F#8, 0x92#8] ++
  [0x93#8, 0x97#8, 0x9B#8, 0x9C#8, 0x9E#8, 0x9F#8, 0xA3#8, 0xA7#8, 0xAB#8, 0xAF#8, 0xB2#8, 0xB3#8, 0xB7#8, 0xBB#8, 0xBF#8, 0xC2#8] ++
  [0xC3#8, 0xC7#8, 0xCB#8, 0xCF#8, 0xD2#8, 0xD3#8, 0xD4#8, 0xD7#8, 0xDA#8, 0xDB#8, 0xDC#8, 0xDF#8, 0xE2#8, 0xE3#8, 0xE7#8, 0xEB#8] ++
  [0xEF#8, 0xF2#8, 0xF3#8, 0xF4#8, 0xF7#8, 0xFA#8, 0xFB#8, 0xFC#8, 0xFF#8]

/-- The answer of the decoder. -/
inductive Decoded where
  /-- an instruction and the bytes after it -/
  | ok (i : Instr) (rest : List Byte)
  /-- the first byte is one of the 105 illegal opcodes (R127) -/
  | illegalOpcode (op : Byte)
  /-- the list ends before the instruction does; the machine never sees this, since it always fetches `len - 1` operand bytes (R104) -/
  | truncated
deriving DecidableEq, Repr

/-- Decoding of a list of bytes, total (R128). -/
def decode : List Byte → Decoded
  | [] => .truncated
  | op :: rest =>
    match decodeOpcode op, rest with
    | none, _ => .illegalOpcode op
    | some (.bare i), rest => .ok i rest
    | some (.byte mk), b1 :: rest => .ok (mk b1) rest
    | some (.word mk), b1 :: b2 :: rest => .ok (mk (wordOf b2 b1)) rest
    | some _, _ => .truncated

/-- The bytes of an instruction, lowest address first (R100, R101, R126). -/
def encode : Instr → List Byte
  | .brk => [0x00#8]
  | .oraIndX d => [0x01#8, d]
  | .oraZp d => [0x05#8, d]
  | .aslZp d => [0x06#8, d]
  | .php => [0x08#8]
  | .oraImm v => [0x09#8, v]
  | .aslAcc => [0x0A#8]
  | .oraAbs w => [0x0D#8, lowByte w, highByte w]
  | .aslAbs w => [0x0E#8, lowByte w, highByte w]
  | .bpl o => [0x10#8, o]
  | .oraIndY d => [0x11#8, d]
  | .oraZpX d => [0x15#8, d]
  | .aslZpX d => [0x16#8, d]
  | .clc => [0x18#8]
  | .oraAbsY w => [0x19#8, lowByte w, highByte w]
  | .oraAbsX w => [0x1D#8, lowByte w, highByte w]
  | .aslAbsX w => [0x1E#8, lowByte w, highByte w]
  | .jsr w => [0x20#8, lowByte w, highByte w]
  | .andIndX d => [0x21#8, d]
  | .bitZp d => [0x24#8, d]
  | .andZp d => [0x25#8, d]
  | .rolZp d => [0x26#8, d]
  | .plp => [0x28#8]
  | .andImm v => [0x29#8, v]
  | .rolAcc => [0x2A#8]
  | .bitAbs w => [0x2C#8, lowByte w, highByte w]
  | .andAbs w => [0x2D#8, lowByte w, highByte w]
  | .rolAbs w => [0x2E#8, lowByte w, highByte w]
  | .bmi o => [0x30#8, o]
  | .andIndY d => [0x31#8, d]
  | .andZpX d => [0x35#8, d]
  | .rolZpX d => [0x36#8, d]
  | .sec => [0x38#8]
  | .andAbsY w => [0x39#8, lowByte w, highByte w]
  | .andAbsX w => [0x3D#8, lowByte w, highByte w]
  | .rolAbsX w => [0x3E#8, lowByte w, highByte w]
  | .rti => [0x40#8]
  | .eorIndX d => [0x41#8, d]
  | .eorZp d => [0x45#8, d]
  | .lsrZp d => [0x46#8, d]
  | .pha => [0x48#8]
  | .eorImm v => [0x49#8, v]
  | .lsrAcc => [0x4A#8]
  | .jmpAbs w => [0x4C#8, lowByte w, highByte w]
  | .eorAbs w => [0x4D#8, lowByte w, highByte w]
  | .lsrAbs w => [0x4E#8, lowByte w, highByte w]
  | .bvc o => [0x50#8, o]
  | .eorIndY d => [0x51#8, d]
  | .eorZpX d => [0x55#8, d]
  | .lsrZpX d => [0x56#8, d]
  | .cli => [0x58#8]
  | .eorAbsY w => [0x59#8, lowByte w, highByte w]
  | .eorAbsX w => [0x5D#8, lowByte w, highByte w]
  | .lsrAbsX w => [0x5E#8, lowByte w, highByte w]
  | .rts => [0x60#8]
  | .adcIndX d => [0x61#8, d]
  | .adcZp d => [0x65#8, d]
  | .rorZp d => [0x66#8, d]
  | .pla => [0x68#8]
  | .adcImm v => [0x69#8, v]
  | .rorAcc => [0x6A#8]
  | .jmpInd w => [0x6C#8, lowByte w, highByte w]
  | .adcAbs w => [0x6D#8, lowByte w, highByte w]
  | .rorAbs w => [0x6E#8, lowByte w, highByte w]
  | .bvs o => [0x70#8, o]
  | .adcIndY d => [0x71#8, d]
  | .adcZpX d => [0x75#8, d]
  | .rorZpX d => [0x76#8, d]
  | .sei => [0x78#8]
  | .adcAbsY w => [0x79#8, lowByte w, highByte w]
  | .adcAbsX w => [0x7D#8, lowByte w, highByte w]
  | .rorAbsX w => [0x7E#8, lowByte w, highByte w]
  | .staIndX d => [0x81#8, d]
  | .styZp d => [0x84#8, d]
  | .staZp d => [0x85#8, d]
  | .stxZp d => [0x86#8, d]
  | .dey => [0x88#8]
  | .txa => [0x8A#8]
  | .styAbs w => [0x8C#8, lowByte w, highByte w]
  | .staAbs w => [0x8D#8, lowByte w, highByte w]
  | .stxAbs w => [0x8E#8, lowByte w, highByte w]
  | .bcc o => [0x90#8, o]
  | .staIndY d => [0x91#8, d]
  | .styZpX d => [0x94#8, d]
  | .staZpX d => [0x95#8, d]
  | .stxZpY d => [0x96#8, d]
  | .tya => [0x98#8]
  | .staAbsY w => [0x99#8, lowByte w, highByte w]
  | .txs => [0x9A#8]
  | .staAbsX w => [0x9D#8, lowByte w, highByte w]
  | .ldyImm v => [0xA0#8, v]
  | .ldaIndX d => [0xA1#8, d]
  | .ldxImm v => [0xA2#8, v]
  | .ldyZp d => [0xA4#8, d]
  | .ldaZp d => [0xA5#8, d]
  | .ldxZp d => [0xA6#8, d]
  | .tay => [0xA8#8]
  | .ldaImm v => [0xA9#8, v]
  | .tax => [0xAA#8]
  | .ldyAbs w => [0xAC#8, lowByte w, highByte w]
  | .ldaAbs w => [0xAD#8, lowByte w, highByte w]
  | .ldxAbs w => [0xAE#8, lowByte w, highByte w]
  | .bcs o => [0xB0#8, o]
  | .ldaIndY d => [0xB1#8, d]
  | .ldyZpX d => [0xB4#8, d]
  | .ldaZpX d => [0xB5#8, d]
  | .ldxZpY d => [0xB6#8, d]
  | .clv => [0xB8#8]
  | .ldaAbsY w => [0xB9#8, lowByte w, highByte w]
  | .tsx => [0xBA#8]
  | .ldyAbsX w => [0xBC#8, lowByte w, highByte w]
  | .ldaAbsX w => [0xBD#8, lowByte w, highByte w]
  | .ldxAbsY w => [0xBE#8, lowByte w, highByte w]
  | .cpyImm v => [0xC0#8, v]
  | .cmpIndX d => [0xC1#8, d]
  | .cpyZp d => [0xC4#8, d]
  | .cmpZp d => [0xC5#8, d]
  | .decZp d => [0xC6#8, d]
  | .iny => [0xC8#8]
  | .cmpImm v => [0xC9#8, v]
  | .dex => [0xCA#8]
  | .cpyAbs w => [0xCC#8, lowByte w, highByte w]
  | .cmpAbs w => [0xCD#8, lowByte w, highByte w]
  | .decAbs w => [0xCE#8, lowByte w, highByte w]
  | .bne o => [0xD0#8, o]
  | .cmpIndY d => [0xD1#8, d]
  | .cmpZpX d => [0xD5#8, d]
  | .decZpX d => [0xD6#8, d]
  | .cld => [0xD8#8]
  | .cmpAbsY w => [0xD9#8, lowByte w, highByte w]
  | .cmpAbsX w => [0xDD#8, lowByte w, highByte w]
  | .decAbsX w => [0xDE#8, lowByte w, highByte w]
  | .cpxImm v => [0xE0#8, v]
  | .sbcIndX d => [0xE1#8, d]
  | .cpxZp d => [0xE4#8, d]
  | .sbcZp d => [0xE5#8, d]
  | .incZp d => [0xE6#8, d]
  | .inx => [0xE8#8]
  | .sbcImm v => [0xE9#8, v]
  | .nop => [0xEA#8]
  | .cpxAbs w => [0xEC#8, lowByte w, highByte w]
  | .sbcAbs w => [0xED#8, lowByte w, highByte w]
  | .incAbs w => [0xEE#8, lowByte w, highByte w]
  | .beq o => [0xF0#8, o]
  | .sbcIndY d => [0xF1#8, d]
  | .sbcZpX d => [0xF5#8, d]
  | .incZpX d => [0xF6#8, d]
  | .sed => [0xF8#8]
  | .sbcAbsY w => [0xF9#8, lowByte w, highByte w]
  | .sbcAbsX w => [0xFD#8, lowByte w, highByte w]
  | .incAbsX w => [0xFE#8, lowByte w, highByte w]

/-- The three bytes of a table word: bits 7..0 are the first byte, 15..8 the second, 23..16 the third; every bit from `nbits` up is 0. -/
def tableBytes (nbits w : Nat) : List Byte :=
  let v := w % 2 ^ nbits
  [BitVec.ofNat 8 v, BitVec.ofNat 8 (v / 0x100), BitVec.ofNat 8 (v / 0x10000)]

/-- The instruction this decoder reads from an instruction whose bits are `w`, numbered as spec/opcode_table.json numbers them. -/
def decodeTableWord (nbits w : Nat) : Option Instr :=
  match decode (tableBytes nbits w) with
  | .ok i _ => some i
  | .illegalOpcode _ => none
  | .truncated => none

end Sys2Proof
end

