-- ==== Sys2Proof/Machine/Mirror.lean ====
section
/-!
DEFINITION. Address mirroring, pure and total (20_memory.md R62 to R65), and the slots of PPU space (R72).
-/
namespace Sys2Proof.Machine

/-- CPU mirror (R62). -/
def cpuMirror (a : Word) : Word :=
  if a ≤ 0x1FFF#16 then a &&& 0x07FF#16
  else if a ≤ 0x3FFF#16 then 0x2000#16 + (a &&& 0x0007#16)
  else a

/-- Nametable fold: a nametable address to an index of `nt_mem` (R65). -/
def ntFold (m : Mirroring) (a : Word) : Word :=
  match m with
  | .vertical => a &&& 0x07FF#16
  | .horizontal =>
    let q := (a - 0x2000#16) >>> 10
    ((q >>> 1) <<< 10) ||| (a &&& 0x03FF#16)

/-- The third mirror of R64: the canonical form of a nametable address. -/
def ntCanonical (m : Mirroring) (a : Word) : Word :=
  match m with
  | .vertical => 0x2000#16 + ntFold m a
  | .horizontal => 0x2000#16 + 0x800#16 * (ntFold m a >>> 10) + (a &&& 0x3FF#16)

/-- PPU mirror (R64), its lines in the rule's order. -/
def ppuMirror (m : Mirroring) (addr : Word) : Word :=
  let a := addr &&& 0x3FFF#16
  let a := if 0x3000#16 ≤ a ∧ a ≤ 0x3EFF#16 then a - 0x1000#16 else a
  let a := if 0x3F20#16 ≤ a ∧ a ≤ 0x3FFF#16 then 0x3F00#16 + (a &&& 0x1F#16) else a
  if 0x2000#16 ≤ a ∧ a ≤ 0x2FFF#16 then ntCanonical m a else a

/-- A physical slot of PPU space (R72). -/
inductive Slot where
  /-- `ppu_mem[c]`: pattern tables and palette -/
  | ppu (c : Nat)
  /-- `nt_mem[n]` -/
  | nt (n : Nat)
deriving DecidableEq, Repr

/-- The slot of a PPU address (R72). -/
def ppuSlot (m : Mirroring) (addr : Word) : Slot :=
  let c := ppuMirror m addr
  if 0x2000#16 ≤ c ∧ c ≤ 0x2FFF#16 then .nt (ntFold m c).toNat else .ppu c.toNat

/-- Whether two addresses lie in different 256-byte pages (30_encoding.md R123). -/
def pageCrossed (a b : Word) : Bool := (a &&& 0xFF00#16) != (b &&& 0xFF00#16)

end Sys2Proof.Machine
end

