-- ==== Sys2Proof/Machine/Ppu.lean ====
section
/-!
DEFINITION. PPU space accesses (20_memory.md R76, R77) and the PPU's register file (60_exceptions.md R320 to R337), but for the
OAM-DMA port, whose copy reads the CPU bus (Machine/Bus.lean).
-/
namespace Sys2Proof.Machine

/-- `PpuRead(addr)`, no side effect (R76). -/
def ppuRead (addr : Word) (s : State) : Byte :=
  match ppuSlot s.params.mirroring addr with
  | .ppu c => s.ppuByte c
  | .nt n => s.ntByte n

/-- `PpuWrite(addr, v)` (R77). -/
def ppuWrite (addr : Word) (v : Byte) (s : State) : State :=
  match ppuSlot s.params.mirroring addr with
  | .ppu c => putPpuByte c v s
  | .nt n => putNtByte n v s

/-- The DATA-port increment, CTRL bit 2 (R336). -/
def dataIncrement (s : State) : Word := if s.ppu.ctrl.getLsbD 2 then 32#16 else 1#16

/-- CTRL write (R321). -/
def writeCtrl (v : Byte) (s : State) : State := s.setPpu { s.ppu with ctrl := v }

/-- MASK write (R322). -/
def writeMask (v : Byte) (s : State) : State := s.setPpu { s.ppu with mask := v }

/-- STATUS write: claimed, no effect (R323). -/
def writeStatus (_ : Byte) (s : State) : State := s

/-- OAMADDR write (R324). -/
def writeOamaddr (v : Byte) (s : State) : State := s.setPpu { s.ppu with oamaddr := v }

/-- OAMDATA write: store at `oamaddr`, then increment it mod 256 (R325). -/
def writeOamdata (v : Byte) (s : State) : State :=
  (putOamByte s.ppu.oamaddr.toNat v s).setPpu { s.ppu with oamaddr := s.ppu.oamaddr + 1#8 }

/-- SCROLL write (R326). -/
def writeScroll (v : Byte) (s : State) : State :=
  if s.ppu.w then s.setPpu { s.ppu with scrollY := v, w := false }
  else s.setPpu { s.ppu with scrollX := v, w := true }

/-- ADDR write (R327): high byte first, all 8 bits kept. -/
def writeAddr (v : Byte) (s : State) : State :=
  if s.ppu.w then s.setPpu { s.ppu with intlAddr := (s.ppu.intlAddr &&& 0xFF00#16) ||| v.setWidth 16, w := false }
  else s.setPpu { s.ppu with intlAddr := (s.ppu.intlAddr &&& 0x00FF#16) ||| (v.setWidth 16 <<< 8), w := true }

/-- `intlAddr <- (intlAddr + inc) & 0xFFFF` (R328, R334). -/
def advanceIntlAddr (s : State) : State :=
  s.setPpu { s.ppu with intlAddr := s.ppu.intlAddr + dataIncrement s }

/-- DATA write (R328). -/
def writeData (v : Byte) (s : State) : State := advanceIntlAddr (ppuWrite s.ppu.intlAddr v s)

/-- STATUS read: the old status; VBlank and the toggle are cleared (R332). -/
def readStatus (s : State) : Byte × State :=
  (s.ppu.status, s.setPpu { s.ppu with status := s.ppu.status &&& 0x7F#8, w := false })

/-- DATA read (R334): a palette address answers at once and refills the buffer from 0x1000 below; any other answers the buffer
and refills it from the address. -/
def readData (s : State) : Byte × State :=
  let c := ppuMirror s.params.mirroring s.ppu.intlAddr
  if 0x3F00#16 ≤ c ∧ c ≤ 0x3FFF#16 then
    (ppuRead c s, advanceIntlAddr (s.setPpu { s.ppu with buffer := ppuRead (c - 0x1000#16) s }))
  else
    (s.ppu.buffer, advanceIntlAddr (s.setPpu { s.ppu with buffer := ppuRead s.ppu.intlAddr s }))

/-- The PPU's read hook (R320, R330 to R335): answers 0x2000, 0x2001, 0x2002, 0x2004 and 0x2007. -/
def ppuTryRead (p : Word) (s : State) : Option (Byte × State) :=
  if p = 0x2000#16 then some (s.ppu.ctrl, s)
  else if p = 0x2001#16 then some (s.ppu.mask, s)
  else if p = 0x2002#16 then some (readStatus s)
  else if p = 0x2004#16 then some (s.oamByte s.ppu.oamaddr.toNat, s)
  else if p = 0x2007#16 then some (readData s)
  else none

end Sys2Proof.Machine
end

