-- ==== Sys2Proof/Machine/Bus.lean ====
section
/-!
DEFINITION. The bus: hook lists, the CPU-space read and write, the OAM-DMA sequencer (20_memory.md R66 to R75,
60_exceptions.md R350 to R352).
-/
namespace Sys2Proof.Machine

/-- A read hook: none when it does not answer; otherwise the byte and the state after it (R67). -/
abbrev ReadHook := Word → State → Option (Byte × State)

/-- A write hook: none when it does not claim the write (R67). -/
abbrev WriteHook := Word → Byte → State → Option State

/-- The first hook of the list that answers (R68, R70). -/
def askReadHooks : List ReadHook → Word → State → Option (Byte × State)
  | [], _, _ => none
  | h :: rest, p, s =>
    match h p s with
    | some r => some r
    | none => askReadHooks rest p s

/-- The first hook of the list that claims the write (R69, R70). -/
def askWriteHooks : List WriteHook → Word → Byte → State → Option State
  | [], _, _, _ => none
  | h :: rest, p, v, s =>
    match h p v s with
    | some t => some t
    | none => askWriteHooks rest p v s

/-- Read hooks in registration order: the PPU, then the controller (R71, R73). -/
def readHooks : List ReadHook := [ppuTryRead, padTryRead]

/-- `last_read <- p` (R74). -/
def logRead (p : Word) (s : State) : State := s.setBus { s.bus with lastRead := some p }

/-- `last_write <- p` (R74). -/
def logWrite (p : Word) (s : State) : State := s.setBus { s.bus with lastWrite := some p }

/-- `cpu_read(addr)` (R68): mirror, log, hooks, default store (R66). -/
def cpuRead (addr : Word) (s : State) : Byte × State :=
  let p := cpuMirror addr
  let t := logRead p s
  match askReadHooks readHooks p t with
  | some r => r
  | none => (t.cpuByte p.toNat, t)

/-- The next `n` copies of OAM-DMA, from index `i` on: a full bus read each, ascending (R350, R352). -/
def oamDmaFrom (page : Byte) : Nat → Nat → State → State
  | 0, _, s => s
  | n + 1, i, s =>
    let r := cpuRead (wordOf page 0#8 + BitVec.ofNat 16 i) s
    oamDmaFrom page n (i + 1) (putOamByte i r.1 r.2)

/-- OAM-DMA of a page: 256 bytes into OAM 0 to 255; `oamaddr` and `cycles` are left alone (R350, R351). -/
def oamDma (page : Byte) (s : State) : State := oamDmaFrom page 256 0 s

/-- The PPU's write hook (R320 to R329): claims 0x2000 to 0x2007 and 0x4014. -/
def ppuTryWrite (p : Word) (v : Byte) (s : State) : Option State :=
  if p = 0x2000#16 then some (writeCtrl v s)
  else if p = 0x2001#16 then some (writeMask v s)
  else if p = 0x2002#16 then some (writeStatus v s)
  else if p = 0x2003#16 then some (writeOamaddr v s)
  else if p = 0x2004#16 then some (writeOamdata v s)
  else if p = 0x2005#16 then some (writeScroll v s)
  else if p = 0x2006#16 then some (writeAddr v s)
  else if p = 0x2007#16 then some (writeData v s)
  else if p = 0x4014#16 then some (oamDma v s)
  else none

/-- Write hooks in registration order (R71, R73). -/
def writeHooks : List WriteHook := [ppuTryWrite, padTryWrite]

/-- `cpu_write(addr, v)` (R69): mirror, log, hooks, default store (R66). -/
def cpuWrite (addr : Word) (v : Byte) (s : State) : State :=
  let p := cpuMirror addr
  let t := logWrite p s
  match askWriteHooks writeHooks p v t with
  | some u => u
  | none => putCpuByte p.toNat v t

/-- Whether a read of physical address `p` is answered by a hook (R73). -/
def readHooked (p : Word) : Bool :=
  p == 0x2000#16 || p == 0x2001#16 || p == 0x2002#16 || p == 0x2004#16 || p == 0x2007#16 || p == 0x4016#16

/-- Whether a write of physical address `p` is claimed by a hook (R73). -/
def writeHooked (p : Word) : Bool :=
  p == 0x2000#16 || p == 0x2001#16 || p == 0x2002#16 || p == 0x2003#16 || p == 0x2004#16 || p == 0x2005#16 ||
  p == 0x2006#16 || p == 0x2007#16 || p == 0x4014#16 || p == 0x4016#16

/-- The two bytes of a 16-bit value in memory, low address first (R78, R81). -/
def cpuReadPair (lo hi : Word) (s : State) : Word × State :=
  let l := cpuRead lo s
  let h := cpuRead hi l.2
  (wordOf h.1 l.1, h.2)

end Sys2Proof.Machine
end

