-- ==== Sys2Proof/Machine/Operands.lean ====
section
/-!
DEFINITION. The operand forms (30_encoding.md R110 to R123): effective addresses and operand values. An indirect mode reads its
pointer through the bus, so resolving an operand gives the state after those reads.
-/
namespace Sys2Proof.Machine

/-- An operand in memory, by its addressing mode, with the operand byte `b1` or the 16-bit `b2:b1`. -/
inductive Mode where
  /-- ZP (R113) -/
  | zp (d : Byte)
  /-- ZPX (R114) -/
  | zpX (d : Byte)
  /-- ZPY (R115) -/
  | zpY (d : Byte)
  /-- ABS (R116) -/
  | abs (w : Word)
  /-- ABSX (R117) -/
  | absX (w : Word)
  /-- ABSY (R118) -/
  | absY (w : Word)
  /-- IND (R119) -/
  | ind (w : Word)
  /-- INDX (R120) -/
  | indX (d : Byte)
  /-- INDY (R121) -/
  | indY (d : Byte)
deriving DecidableEq, Repr

/-- A read operand: the immediate byte (R112) or a byte in memory. -/
inductive Operand where
  | imm (v : Byte)
  | mem (m : Mode)
deriving DecidableEq, Repr

/-- An effective address, and whether indexing crossed a page (R117, R118, R121, R123). -/
structure Ea where
  addr    : Word
  crossed : Bool
deriving DecidableEq, Repr

/-- A page-zero address (R113). -/
def zeroPage (d : Byte) : Word := d.setWidth 16

/-- `(base + i) & 0xFFFF` with its page-cross mark (R117, R118, R121). -/
def indexed (base : Word) (i : Byte) : Ea :=
  let ea := base + i.setWidth 16
  { addr := ea, crossed := pageCrossed base ea }

/-- The address of a pointer's high byte in IND: the next byte of the same page (R119, 92_eei_decisions.md D12). -/
def samePageNext (ptr : Word) : Word := (ptr &&& 0xFF00#16) ||| ((ptr + 1#16) &&& 0x00FF#16)

/-- The effective address of a mode, and the state after its pointer reads (R113 to R121). -/
def resolve (m : Mode) (s : State) : Ea × State :=
  match m with
  | .zp d => ({ addr := zeroPage d, crossed := false }, s)
  | .zpX d => ({ addr := zeroPage (d + s.cpu.x), crossed := false }, s)
  | .zpY d => ({ addr := zeroPage (d + s.cpu.y), crossed := false }, s)
  | .abs w => ({ addr := w, crossed := false }, s)
  | .absX w => (indexed w s.cpu.x, s)
  | .absY w => (indexed w s.cpu.y, s)
  | .ind w =>
    let r := cpuReadPair w (samePageNext w) s
    ({ addr := r.1, crossed := false }, r.2)
  | .indX d =>
    let p := d + s.cpu.x
    let r := cpuReadPair (zeroPage p) (zeroPage (p + 1#8)) s
    ({ addr := r.1, crossed := false }, r.2)
  | .indY d =>
    let r := cpuReadPair (zeroPage d) (zeroPage (d + 1#8)) s
    (indexed r.1 s.cpu.y, r.2)

/-- An operand's value, its page-cross mark, and the state after its reads (00_scope.md R15, 30_encoding.md R124 class R). -/
def readOperand (o : Operand) (s : State) : (Byte × Bool) × State :=
  match o with
  | .imm v => ((v, false), s)
  | .mem m =>
    let e := resolve m s
    let r := cpuRead e.1.addr e.2
    ((r.1, e.1.crossed), r.2)

/-- `target = (npc + sext_16(b1)) & 0xFFFF` (R122). -/
def branchTarget (npc : Word) (b1 : Byte) : Word := npc + b1.signExtend 16

end Sys2Proof.Machine
end

