-- ==== Sys2Proof/Machine/Ops.lean ====
section
/-!
DEFINITION. The shared operations the meanings are made of: retiring an instruction with its cycle cost, the stack, taking an
exception and returning from one, reporting an illegal opcode, and one operation per access class (30_encoding.md R102, R124).
-/
namespace Sys2Proof.Machine

/-- What a meaning answers (Host/Core.lean). -/
abbrev Answer := Host.Outcome State Fault Refusal

/-- `npc = (PC + len) & 0xFFFF` (00_scope.md R15), from the state the instruction starts in. -/
def nextPc (len : Nat) (s : State) : Word := s.cpu.pc + BitVec.ofNat 16 len

/-- `PC <- pc; cycles <- cycles + cost` (30_encoding.md R102). -/
def retire (pc : Word) (cost : Nat) (s : State) : State :=
  s.setCpu { s.cpu with pc := pc, cycles := s.cpu.cycles + cost }

/-- Extra cycles of an indexed read: 1 under NMOS for a row with the page-cross penalty that crossed (70_reset_and_hazards.md R404). -/
def crossExtra (penalty crossed : Bool) (s : State) : Nat :=
  match s.params.extraCycles with
  | .baseOnly => 0
  | .nmos => if penalty && crossed then 1 else 0

/-- Extra cycles of a branch: under NMOS 1 if taken, 2 if taken into another page (R404). -/
def branchExtra (taken : Bool) (npc target : Word) (s : State) : Nat :=
  match s.params.extraCycles with
  | .baseOnly => 0
  | .nmos => if taken then (if pageCrossed npc target then 2 else 1) else 0

/-- The address of the stack byte SP points at (10_state.md R22). -/
def stackAddr (sp : Byte) : Word := wordOf 0x01#8 sp

/-- `Push(v)` (45_stack_flag_misc.md R220). -/
def push (v : Byte) (s : State) : State :=
  let t := cpuWrite (stackAddr s.cpu.sp) v s
  t.setCpu { t.cpu with sp := t.cpu.sp - 1#8 }

/-- `Pull()` (R221). -/
def pull (s : State) : Byte × State :=
  let t := s.setCpu { s.cpu with sp := s.cpu.sp + 1#8 }
  cpuRead (stackAddr t.cpu.sp) t

/-- Push a 16-bit value, high byte first (20_memory.md R79). -/
def pushWord (w : Word) (s : State) : State := push (lowByte w) (push (highByte w) s)

/-- Pull a 16-bit value, low byte first (20_memory.md R79). -/
def pullWord (s : State) : Word × State :=
  let l := pull s
  let h := pull l.2
  (wordOf h.1 l.1, h.2)

/-- Taking an exception, shared by interrupt entry and BRK (60_exceptions.md R304, 44_control_flow.md R214): push the saved PC
(high, low) and `P | 0x30`, set I, load PC from the two bytes at `vector`, and charge `cost` cycles. -/
def takeException (saved vector : Word) (cost : Nat) (s : State) : State :=
  let t := push (pushedStatus s.cpu.p) (pushWord saved s)
  let t := t.setCpu { t.cpu with p := setI true t.cpu.p }
  let v := cpuReadPair vector (vector + 1#16) t
  retire v.1 cost v.2

/-- Return from an exception (44_control_flow.md R213): pull P, then PC low byte before high. -/
def returnFromException (cost : Nat) (s : State) : State :=
  let p := pull s
  let t := p.2.setCpu { p.2.cpu with p := storedStatus p.1 }
  let pc := pullWord t
  retire pc.1 cost pc.2

/-- Interrupt entry `interrupt(vector)`: the saved PC is the next instruction's address, 7 cycles (60_exceptions.md R304). -/
def interrupt (vector : Word) (s : State) : State := takeException s.cpu.pc vector 7 s

/-- IllegalInstruction: report, mark, skip one byte, 2 cycles (60_exceptions.md R300). -/
def reportIllegal (op : Byte) (s : State) : State :=
  let t := emit (.illegalInstruction s.cpu.pc op) s
  let t := t.setDiag { t.diag with illegalSeen := true }
  retire (nextPc 1 s) 2 t

/-- Access class NONE: registers only (30_encoding.md R124). -/
def registerClass (f : Cpu → Cpu) (len base : Nat) (s : State) : State :=
  retire (nextPc len s) base (s.setCpu (f s.cpu))

/-- Access class R: one operand value, then registers (R124). -/
def readClass (f : Byte → Cpu → Cpu) (o : Operand) (len base : Nat) (penalty : Bool) (s : State) : State :=
  let r := readOperand o s
  let t := r.2
  retire (nextPc len s) (base + crossExtra penalty r.1.2 s) (t.setCpu (f r.1.1 t.cpu))

/-- Access class W: one write of `v`, no read of the address (R124). -/
def writeClass (v : Byte) (m : Mode) (len base : Nat) (s : State) : State :=
  let e := resolve m s
  retire (nextPc len s) base (cpuWrite e.1.addr v e.2)

/-- Access class RMW on memory: one read, one write of the result, then the flags (R124). `f` maps the operand and P to the
result and the new P. -/
def modifyClass (f : Byte → Byte → Byte × Byte) (m : Mode) (len base : Nat) (s : State) : State :=
  let e := resolve m s
  let r := cpuRead e.1.addr e.2
  let q := f r.1 r.2.cpu.p
  let t := cpuWrite e.1.addr q.1 r.2
  retire (nextPc len s) base (t.setCpu { t.cpu with p := q.2 })

/-- Access class RMW in ACC mode: the operand and the result are A, no memory access (R124, R190). -/
def modifyAcc (f : Byte → Byte → Byte × Byte) (len base : Nat) (s : State) : State :=
  registerClass (fun c => { c with a := (f c.a c.p).1, p := (f c.a c.p).2 }) len base s

/-- Access class BR: the shared branch rule (44_control_flow.md R200). -/
def branchClass (taken : Bool) (b1 : Byte) (s : State) : State :=
  let npc := nextPc 2 s
  let target := branchTarget npc b1
  retire (if taken then target else npc) (2 + branchExtra taken npc target s) s

end Sys2Proof.Machine
end

