-- ==== Sys2Proof/Machine/Arith.lean ====
section
/-!
DEFINITION. Arithmetic, logic, compare, increment and decrement (42_arithmetic_logic.md R160 to R179).
-/
namespace Sys2Proof.Machine

/-- Write A with a result and its `NZ` (R163 to R165). -/
def resultA (r : Byte) (c : Cpu) : Cpu := { c with a := r, p := setNZ r c.p }

/-- ADC: `A <- AddCore(A, M, P.C)` (R161). -/
def addWithCarry (m : Byte) (c : Cpu) : Cpu :=
  let q := addCore c.a m (flagC c.p) c.p
  { c with a := q.1, p := q.2 }

/-- SBC: `A <- A - M - (1 - P.C)` (R162). -/
def subWithBorrow (m : Byte) (c : Cpu) : Cpu :=
  let q := subCore c.a m (flagC c.p) c.p
  { c with a := q.1, p := q.2 }

/-- AND (R163). -/
def andA (m : Byte) (c : Cpu) : Cpu := resultA (c.a &&& m) c

/-- ORA (R164). -/
def orA (m : Byte) (c : Cpu) : Cpu := resultA (c.a ||| m) c

/-- EOR (R165). -/
def eorA (m : Byte) (c : Cpu) : Cpu := resultA (c.a ^^^ m) c

/-- BIT: flags only (R166). -/
def testBits (m : Byte) (c : Cpu) : Cpu := { c with p := bitCore c.a m c.p }

/-- CMP (R167, R168). -/
def compareA (m : Byte) (c : Cpu) : Cpu := { c with p := compareCore c.a m c.p }

/-- CPX (R167, R169). -/
def compareX (m : Byte) (c : Cpu) : Cpu := { c with p := compareCore c.x m c.p }

/-- CPY (R167, R170). -/
def compareY (m : Byte) (c : Cpu) : Cpu := { c with p := compareCore c.y m c.p }

/-- INX (R173). -/
def incX (c : Cpu) : Cpu := { c with x := c.x + 1#8, p := setNZ (c.x + 1#8) c.p }

/-- INY (R174). -/
def incY (c : Cpu) : Cpu := { c with y := c.y + 1#8, p := setNZ (c.y + 1#8) c.p }

/-- DEX (R175). -/
def decX (c : Cpu) : Cpu := { c with x := c.x - 1#8, p := setNZ (c.x - 1#8) c.p }

/-- DEY (R176). -/
def decY (c : Cpu) : Cpu := { c with y := c.y - 1#8, p := setNZ (c.y - 1#8) c.p }

/-- `ADC ($nn,X)` (0x61, R161): 2 bytes, 6 cycles. -/
def execAdcIndX (d : Byte) (s : State) : Answer :=
  .next (readClass addWithCarry (.mem (.indX d)) 2 6 false s)

/-- `ADC $nn` (0x65, R161): 2 bytes, 3 cycles. -/
def execAdcZp (d : Byte) (s : State) : Answer :=
  .next (readClass addWithCarry (.mem (.zp d)) 2 3 false s)

/-- `ADC #$nn` (0x69, R161): 2 bytes, 2 cycles. -/
def execAdcImm (v : Byte) (s : State) : Answer :=
  .next (readClass addWithCarry (.imm v) 2 2 false s)

/-- `ADC $nnnn` (0x6D, R161): 3 bytes, 4 cycles. -/
def execAdcAbs (w : Word) (s : State) : Answer :=
  .next (readClass addWithCarry (.mem (.abs w)) 3 4 false s)

/-- `ADC ($nn),Y` (0x71, R161): 2 bytes, 5 cycles, page-cross penalty. -/
def execAdcIndY (d : Byte) (s : State) : Answer :=
  .next (readClass addWithCarry (.mem (.indY d)) 2 5 true s)

/-- `ADC $nn,X` (0x75, R161): 2 bytes, 4 cycles. -/
def execAdcZpX (d : Byte) (s : State) : Answer :=
  .next (readClass addWithCarry (.mem (.zpX d)) 2 4 false s)

/-- `ADC $nnnn,Y` (0x79, R161): 3 bytes, 4 cycles, page-cross penalty. -/
def execAdcAbsY (w : Word) (s : State) : Answer :=
  .next (readClass addWithCarry (.mem (.absY w)) 3 4 true s)

/-- `ADC $nnnn,X` (0x7D, R161): 3 bytes, 4 cycles, page-cross penalty. -/
def execAdcAbsX (w : Word) (s : State) : Answer :=
  .next (readClass addWithCarry (.mem (.absX w)) 3 4 true s)

/-- `SBC ($nn,X)` (0xE1, R162): 2 bytes, 6 cycles. -/
def execSbcIndX (d : Byte) (s : State) : Answer :=
  .next (readClass subWithBorrow (.mem (.indX d)) 2 6 false s)

/-- `SBC $nn` (0xE5, R162): 2 bytes, 3 cycles. -/
def execSbcZp (d : Byte) (s : State) : Answer :=
  .next (readClass subWithBorrow (.mem (.zp d)) 2 3 false s)

/-- `SBC #$nn` (0xE9, R162): 2 bytes, 2 cycles. -/
def execSbcImm (v : Byte) (s : State) : Answer :=
  .next (readClass subWithBorrow (.imm v) 2 2 false s)

/-- `SBC $nnnn` (0xED, R162): 3 bytes, 4 cycles. -/
def execSbcAbs (w : Word) (s : State) : Answer :=
  .next (readClass subWithBorrow (.mem (.abs w)) 3 4 false s)

/-- `SBC ($nn),Y` (0xF1, R162): 2 bytes, 5 cycles, page-cross penalty. -/
def execSbcIndY (d : Byte) (s : State) : Answer :=
  .next (readClass subWithBorrow (.mem (.indY d)) 2 5 true s)

/-- `SBC $nn,X` (0xF5, R162): 2 bytes, 4 cycles. -/
def execSbcZpX (d : Byte) (s : State) : Answer :=
  .next (readClass subWithBorrow (.mem (.zpX d)) 2 4 false s)

/-- `SBC $nnnn,Y` (0xF9, R162): 3 bytes, 4 cycles, page-cross penalty. -/
def execSbcAbsY (w : Word) (s : State) : Answer :=
  .next (readClass subWithBorrow (.mem (.absY w)) 3 4 true s)

/-- `SBC $nnnn,X` (0xFD, R162): 3 bytes, 4 cycles, page-cross penalty. -/
def execSbcAbsX (w : Word) (s : State) : Answer :=
  .next (readClass subWithBorrow (.mem (.absX w)) 3 4 true s)

/-- `AND ($nn,X)` (0x21, R163): 2 bytes, 6 cycles. -/
def execAndIndX (d : Byte) (s : State) : Answer :=
  .next (readClass andA (.mem (.indX d)) 2 6 false s)

/-- `AND $nn` (0x25, R163): 2 bytes, 3 cycles. -/
def execAndZp (d : Byte) (s : State) : Answer :=
  .next (readClass andA (.mem (.zp d)) 2 3 false s)

/-- `AND #$nn` (0x29, R163): 2 bytes, 2 cycles. -/
def execAndImm (v : Byte) (s : State) : Answer :=
  .next (readClass andA (.imm v) 2 2 false s)

/-- `AND $nnnn` (0x2D, R163): 3 bytes, 4 cycles. -/
def execAndAbs (w : Word) (s : State) : Answer :=
  .next (readClass andA (.mem (.abs w)) 3 4 false s)

/-- `AND ($nn),Y` (0x31, R163): 2 bytes, 5 cycles, page-cross penalty. -/
def execAndIndY (d : Byte) (s : State) : Answer :=
  .next (readClass andA (.mem (.indY d)) 2 5 true s)

/-- `AND $nn,X` (0x35, R163): 2 bytes, 4 cycles. -/
def execAndZpX (d : Byte) (s : State) : Answer :=
  .next (readClass andA (.mem (.zpX d)) 2 4 false s)

/-- `AND $nnnn,Y` (0x39, R163): 3 bytes, 4 cycles, page-cross penalty. -/
def execAndAbsY (w : Word) (s : State) : Answer :=
  .next (readClass andA (.mem (.absY w)) 3 4 true s)

/-- `AND $nnnn,X` (0x3D, R163): 3 bytes, 4 cycles, page-cross penalty. -/
def execAndAbsX (w : Word) (s : State) : Answer :=
  .next (readClass andA (.mem (.absX w)) 3 4 true s)

/-- `ORA ($nn,X)` (0x01, R164): 2 bytes, 6 cycles. -/
def execOraIndX (d : Byte) (s : State) : Answer :=
  .next (readClass orA (.mem (.indX d)) 2 6 false s)

/-- `ORA $nn` (0x05, R164): 2 bytes, 3 cycles. -/
def execOraZp (d : Byte) (s : State) : Answer :=
  .next (readClass orA (.mem (.zp d)) 2 3 false s)

/-- `ORA #$nn` (0x09, R164): 2 bytes, 2 cycles. -/
def execOraImm (v : Byte) (s : State) : Answer :=
  .next (readClass orA (.imm v) 2 2 false s)

/-- `ORA $nnnn` (0x0D, R164): 3 bytes, 4 cycles. -/
def execOraAbs (w : Word) (s : State) : Answer :=
  .next (readClass orA (.mem (.abs w)) 3 4 false s)

/-- `ORA ($nn),Y` (0x11, R164): 2 bytes, 5 cycles, page-cross penalty. -/
def execOraIndY (d : Byte) (s : State) : Answer :=
  .next (readClass orA (.mem (.indY d)) 2 5 true s)

/-- `ORA $nn,X` (0x15, R164): 2 bytes, 4 cycles. -/
def execOraZpX (d : Byte) (s : State) : Answer :=
  .next (readClass orA (.mem (.zpX d)) 2 4 false s)

/-- `ORA $nnnn,Y` (0x19, R164): 3 bytes, 4 cycles, page-cross penalty. -/
def execOraAbsY (w : Word) (s : State) : Answer :=
  .next (readClass orA (.mem (.absY w)) 3 4 true s)

/-- `ORA $nnnn,X` (0x1D, R164): 3 bytes, 4 cycles, page-cross penalty. -/
def execOraAbsX (w : Word) (s : State) : Answer :=
  .next (readClass orA (.mem (.absX w)) 3 4 true s)

/-- `EOR ($nn,X)` (0x41, R165): 2 bytes, 6 cycles. -/
def execEorIndX (d : Byte) (s : State) : Answer :=
  .next (readClass eorA (.mem (.indX d)) 2 6 false s)

/-- `EOR $nn` (0x45, R165): 2 bytes, 3 cycles. -/
def execEorZp (d : Byte) (s : State) : Answer :=
  .next (readClass eorA (.mem (.zp d)) 2 3 false s)

/-- `EOR #$nn` (0x49, R165): 2 bytes, 2 cycles. -/
def execEorImm (v : Byte) (s : State) : Answer :=
  .next (readClass eorA (.imm v) 2 2 false s)

/-- `EOR $nnnn` (0x4D, R165): 3 bytes, 4 cycles. -/
def execEorAbs (w : Word) (s : State) : Answer :=
  .next (readClass eorA (.mem (.abs w)) 3 4 false s)

/-- `EOR ($nn),Y` (0x51, R165): 2 bytes, 5 cycles, page-cross penalty. -/
def execEorIndY (d : Byte) (s : State) : Answer :=
  .next (readClass eorA (.mem (.indY d)) 2 5 true s)

/-- `EOR $nn,X` (0x55, R165): 2 bytes, 4 cycles. -/
def execEorZpX (d : Byte) (s : State) : Answer :=
  .next (readClass eorA (.mem (.zpX d)) 2 4 false s)

/-- `EOR $nnnn,Y` (0x59, R165): 3 bytes, 4 cycles, page-cross penalty. -/
def execEorAbsY (w : Word) (s : State) : Answer :=
  .next (readClass eorA (.mem (.absY w)) 3 4 true s)

/-- `EOR $nnnn,X` (0x5D, R165): 3 bytes, 4 cycles, page-cross penalty. -/
def execEorAbsX (w : Word) (s : State) : Answer :=
  .next (readClass eorA (.mem (.absX w)) 3 4 true s)

/-- `BIT $nn` (0x24, R166): 2 bytes, 3 cycles. -/
def execBitZp (d : Byte) (s : State) : Answer :=
  .next (readClass testBits (.mem (.zp d)) 2 3 false s)

/-- `BIT $nnnn` (0x2C, R166): 3 bytes, 4 cycles. -/
def execBitAbs (w : Word) (s : State) : Answer :=
  .next (readClass testBits (.mem (.abs w)) 3 4 false s)

/-- `CMP ($nn,X)` (0xC1, R168): 2 bytes, 6 cycles. -/
def execCmpIndX (d : Byte) (s : State) : Answer :=
  .next (readClass compareA (.mem (.indX d)) 2 6 false s)

/-- `CMP $nn` (0xC5, R168): 2 bytes, 3 cycles. -/
def execCmpZp (d : Byte) (s : State) : Answer :=
  .next (readClass compareA (.mem (.zp d)) 2 3 false s)

/-- `CMP #$nn` (0xC9, R168): 2 bytes, 2 cycles. -/
def execCmpImm (v : Byte) (s : State) : Answer :=
  .next (readClass compareA (.imm v) 2 2 false s)

/-- `CMP $nnnn` (0xCD, R168): 3 bytes, 4 cycles. -/
def execCmpAbs (w : Word) (s : State) : Answer :=
  .next (readClass compareA (.mem (.abs w)) 3 4 false s)

/-- `CMP ($nn),Y` (0xD1, R168): 2 bytes, 5 cycles, page-cross penalty. -/
def execCmpIndY (d : Byte) (s : State) : Answer :=
  .next (readClass compareA (.mem (.indY d)) 2 5 true s)

/-- `CMP $nn,X` (0xD5, R168): 2 bytes, 4 cycles. -/
def execCmpZpX (d : Byte) (s : State) : Answer :=
  .next (readClass compareA (.mem (.zpX d)) 2 4 false s)

/-- `CMP $nnnn,Y` (0xD9, R168): 3 bytes, 4 cycles, page-cross penalty. -/
def execCmpAbsY (w : Word) (s : State) : Answer :=
  .next (readClass compareA (.mem (.absY w)) 3 4 true s)

/-- `CMP $nnnn,X` (0xDD, R168): 3 bytes, 4 cycles, page-cross penalty. -/
def execCmpAbsX (w : Word) (s : State) : Answer :=
  .next (readClass compareA (.mem (.absX w)) 3 4 true s)

/-- `CPX #$nn` (0xE0, R169): 2 bytes, 2 cycles. -/
def execCpxImm (v : Byte) (s : State) : Answer :=
  .next (readClass compareX (.imm v) 2 2 false s)

/-- `CPX $nn` (0xE4, R169): 2 bytes, 3 cycles. -/
def execCpxZp (d : Byte) (s : State) : Answer :=
  .next (readClass compareX (.mem (.zp d)) 2 3 false s)

/-- `CPX $nnnn` (0xEC, R169): 3 bytes, 4 cycles. -/
def execCpxAbs (w : Word) (s : State) : Answer :=
  .next (readClass compareX (.mem (.abs w)) 3 4 false s)

/-- `CPY #$nn` (0xC0, R170): 2 bytes, 2 cycles. -/
def execCpyImm (v : Byte) (s : State) : Answer :=
  .next (readClass compareY (.imm v) 2 2 false s)

/-- `CPY $nn` (0xC4, R170): 2 bytes, 3 cycles. -/
def execCpyZp (d : Byte) (s : State) : Answer :=
  .next (readClass compareY (.mem (.zp d)) 2 3 false s)

/-- `CPY $nnnn` (0xCC, R170): 3 bytes, 4 cycles. -/
def execCpyAbs (w : Word) (s : State) : Answer :=
  .next (readClass compareY (.mem (.abs w)) 3 4 false s)

/-- `INC $nn` (0xE6, R171): 2 bytes, 5 cycles. -/
def execIncZp (d : Byte) (s : State) : Answer :=
  .next (modifyClass incCore (.zp d) 2 5 s)

/-- `INC $nnnn` (0xEE, R171): 3 bytes, 6 cycles. -/
def execIncAbs (w : Word) (s : State) : Answer :=
  .next (modifyClass incCore (.abs w) 3 6 s)

/-- `INC $nn,X` (0xF6, R171): 2 bytes, 6 cycles. -/
def execIncZpX (d : Byte) (s : State) : Answer :=
  .next (modifyClass incCore (.zpX d) 2 6 s)

/-- `INC $nnnn,X` (0xFE, R171): 3 bytes, 7 cycles. -/
def execIncAbsX (w : Word) (s : State) : Answer :=
  .next (modifyClass incCore (.absX w) 3 7 s)

/-- `DEC $nn` (0xC6, R172): 2 bytes, 5 cycles. -/
def execDecZp (d : Byte) (s : State) : Answer :=
  .next (modifyClass decCore (.zp d) 2 5 s)

/-- `DEC $nnnn` (0xCE, R172): 3 bytes, 6 cycles. -/
def execDecAbs (w : Word) (s : State) : Answer :=
  .next (modifyClass decCore (.abs w) 3 6 s)

/-- `DEC $nn,X` (0xD6, R172): 2 bytes, 6 cycles. -/
def execDecZpX (d : Byte) (s : State) : Answer :=
  .next (modifyClass decCore (.zpX d) 2 6 s)

/-- `DEC $nnnn,X` (0xDE, R172): 3 bytes, 7 cycles. -/
def execDecAbsX (w : Word) (s : State) : Answer :=
  .next (modifyClass decCore (.absX w) 3 7 s)

/-- `INX` (0xE8, R173): 1 byte, 2 cycles. -/
def execInx (s : State) : Answer :=
  .next (registerClass incX 1 2 s)

/-- `INY` (0xC8, R174): 1 byte, 2 cycles. -/
def execIny (s : State) : Answer :=
  .next (registerClass incY 1 2 s)

/-- `DEX` (0xCA, R175): 1 byte, 2 cycles. -/
def execDex (s : State) : Answer :=
  .next (registerClass decX 1 2 s)

/-- `DEY` (0x88, R176): 1 byte, 2 cycles. -/
def execDey (s : State) : Answer :=
  .next (registerClass decY 1 2 s)

end Sys2Proof.Machine
end

