-- ==== Sys2Proof/Machine/Control.lean ====
section
/-!
DEFINITION. Branches, jumps, subroutines and the interrupt instructions (44_control_flow.md R200 to R215).
-/
namespace Sys2Proof.Machine

/-- JMP indirect: PC is the address the pointer reads gave (R210). -/
def jumpThrough (r : Ea × State) (cost : Nat) : State := retire r.1.addr cost r.2

/-- RTS: PC is the pulled word plus 1 (R212). -/
def returnToCaller (r : Word × State) (cost : Nat) : State := retire (r.1 + 1#16) cost r.2

/-- `BCC $nnnn` (0x90, R201): 2 bytes, 2 cycles, page-cross penalty. -/
def execBcc (o : Byte) (s : State) : Answer :=
  .next (branchClass (!flagC s.cpu.p) o s)

/-- `BCS $nnnn` (0xB0, R202): 2 bytes, 2 cycles, page-cross penalty. -/
def execBcs (o : Byte) (s : State) : Answer :=
  .next (branchClass (flagC s.cpu.p) o s)

/-- `BEQ $nnnn` (0xF0, R203): 2 bytes, 2 cycles, page-cross penalty. -/
def execBeq (o : Byte) (s : State) : Answer :=
  .next (branchClass (flagZ s.cpu.p) o s)

/-- `BMI $nnnn` (0x30, R204): 2 bytes, 2 cycles, page-cross penalty. -/
def execBmi (o : Byte) (s : State) : Answer :=
  .next (branchClass (flagN s.cpu.p) o s)

/-- `BNE $nnnn` (0xD0, R205): 2 bytes, 2 cycles, page-cross penalty. -/
def execBne (o : Byte) (s : State) : Answer :=
  .next (branchClass (!flagZ s.cpu.p) o s)

/-- `BPL $nnnn` (0x10, R206): 2 bytes, 2 cycles, page-cross penalty. -/
def execBpl (o : Byte) (s : State) : Answer :=
  .next (branchClass (!flagN s.cpu.p) o s)

/-- `BVC $nnnn` (0x50, R207): 2 bytes, 2 cycles, page-cross penalty. -/
def execBvc (o : Byte) (s : State) : Answer :=
  .next (branchClass (!flagV s.cpu.p) o s)

/-- `BVS $nnnn` (0x70, R208): 2 bytes, 2 cycles, page-cross penalty. -/
def execBvs (o : Byte) (s : State) : Answer :=
  .next (branchClass (flagV s.cpu.p) o s)

/-- `JMP $nnnn` (0x4C, R209): 3 bytes, 3 cycles. -/
def execJmpAbs (w : Word) (s : State) : Answer :=
  .next (retire w 3 s)

/-- `JMP ($nnnn)` (0x6C, R210): 3 bytes, 5 cycles. -/
def execJmpInd (w : Word) (s : State) : Answer :=
  .next (jumpThrough (resolve (.ind w) s) 5)

/-- `JSR $nnnn` (0x20, R211): 3 bytes, 6 cycles. -/
def execJsr (w : Word) (s : State) : Answer :=
  .next (retire w 6 (pushWord (nextPc 2 s) s))

/-- `RTS` (0x60, R212): 1 byte, 6 cycles. -/
def execRts (s : State) : Answer :=
  .next (returnToCaller (pullWord s) 6)

/-- `RTI` (0x40, R213): 1 byte, 6 cycles. -/
def execRti (s : State) : Answer :=
  .next (returnFromException 6 s)

/-- `BRK` (0x00, R214): 1 byte, 7 cycles. -/
def execBrk (s : State) : Answer :=
  .next (takeException (nextPc 2 s) Config.brkVector 7 s)

end Sys2Proof.Machine
end

