-- ==== Sys2Proof/Machine/LoadStore.lean ====
section
/-!
DEFINITION. Loads, stores and register transfers (41_load_store_transfer.md R140 to R151).
-/
namespace Sys2Proof.Machine

/-- LDA: `A <- M; NZ(A)` (R140). -/
def loadA (m : Byte) (c : Cpu) : Cpu := { c with a := m, p := setNZ m c.p }

/-- LDX: `X <- M; NZ(X)` (R141). -/
def loadX (m : Byte) (c : Cpu) : Cpu := { c with x := m, p := setNZ m c.p }

/-- LDY: `Y <- M; NZ(Y)` (R142). -/
def loadY (m : Byte) (c : Cpu) : Cpu := { c with y := m, p := setNZ m c.p }

/-- TXS: `SP <- X`, no flag (R151). -/
def copyXToSp (c : Cpu) : Cpu := { c with sp := c.x }

/-- `LDA ($nn,X)` (0xA1, R140): 2 bytes, 6 cycles. -/
def execLdaIndX (d : Byte) (s : State) : Answer :=
  .next (readClass loadA (.mem (.indX d)) 2 6 false s)

/-- `LDA $nn` (0xA5, R140): 2 bytes, 3 cycles. -/
def execLdaZp (d : Byte) (s : State) : Answer :=
  .next (readClass loadA (.mem (.zp d)) 2 3 false s)

/-- `LDA #$nn` (0xA9, R140): 2 bytes, 2 cycles. -/
def execLdaImm (v : Byte) (s : State) : Answer :=
  .next (readClass loadA (.imm v) 2 2 false s)

/-- `LDA $nnnn` (0xAD, R140): 3 bytes, 4 cycles. -/
def execLdaAbs (w : Word) (s : State) : Answer :=
  .next (readClass loadA (.mem (.abs w)) 3 4 false s)

/-- `LDA ($nn),Y` (0xB1, R140): 2 bytes, 5 cycles, page-cross penalty. -/
def execLdaIndY (d : Byte) (s : State) : Answer :=
  .next (readClass loadA (.mem (.indY d)) 2 5 true s)

/-- `LDA $nn,X` (0xB5, R140): 2 bytes, 4 cycles. -/
def execLdaZpX (d : Byte) (s : State) : Answer :=
  .next (readClass loadA (.mem (.zpX d)) 2 4 false s)

/-- `LDA $nnnn,Y` (0xB9, R140): 3 bytes, 4 cycles, page-cross penalty. -/
def execLdaAbsY (w : Word) (s : State) : Answer :=
  .next (readClass loadA (.mem (.absY w)) 3 4 true s)

/-- `LDA $nnnn,X` (0xBD, R140): 3 bytes, 4 cycles, page-cross penalty. -/
def execLdaAbsX (w : Word) (s : State) : Answer :=
  .next (readClass loadA (.mem (.absX w)) 3 4 true s)

/-- `LDX #$nn` (0xA2, R141): 2 bytes, 2 cycles. -/
def execLdxImm (v : Byte) (s : State) : Answer :=
  .next (readClass loadX (.imm v) 2 2 false s)

/-- `LDX $nn` (0xA6, R141): 2 bytes, 3 cycles. -/
def execLdxZp (d : Byte) (s : State) : Answer :=
  .next (readClass loadX (.mem (.zp d)) 2 3 false s)

/-- `LDX $nnnn` (0xAE, R141): 3 bytes, 4 cycles. -/
def execLdxAbs (w : Word) (s : State) : Answer :=
  .next (readClass loadX (.mem (.abs w)) 3 4 false s)

/-- `LDX $nn,Y` (0xB6, R141): 2 bytes, 4 cycles. -/
def execLdxZpY (d : Byte) (s : State) : Answer :=
  .next (readClass loadX (.mem (.zpY d)) 2 4 false s)

/-- `LDX $nnnn,Y` (0xBE, R141): 3 bytes, 4 cycles, page-cross penalty. -/
def execLdxAbsY (w : Word) (s : State) : Answer :=
  .next (readClass loadX (.mem (.absY w)) 3 4 true s)

/-- `LDY #$nn` (0xA0, R142): 2 bytes, 2 cycles. -/
def execLdyImm (v : Byte) (s : State) : Answer :=
  .next (readClass loadY (.imm v) 2 2 false s)

/-- `LDY $nn` (0xA4, R142): 2 bytes, 3 cycles. -/
def execLdyZp (d : Byte) (s : State) : Answer :=
  .next (readClass loadY (.mem (.zp d)) 2 3 false s)

/-- `LDY $nnnn` (0xAC, R142): 3 bytes, 4 cycles. -/
def execLdyAbs (w : Word) (s : State) : Answer :=
  .next (readClass loadY (.mem (.abs w)) 3 4 false s)

/-- `LDY $nn,X` (0xB4, R142): 2 bytes, 4 cycles. -/
def execLdyZpX (d : Byte) (s : State) : Answer :=
  .next (readClass loadY (.mem (.zpX d)) 2 4 false s)

/-- `LDY $nnnn,X` (0xBC, R142): 3 bytes, 4 cycles, page-cross penalty. -/
def execLdyAbsX (w : Word) (s : State) : Answer :=
  .next (readClass loadY (.mem (.absX w)) 3 4 true s)

/-- `STA ($nn,X)` (0x81, R143): 2 bytes, 6 cycles. -/
def execStaIndX (d : Byte) (s : State) : Answer :=
  .next (writeClass s.cpu.a (.indX d) 2 6 s)

/-- `STA $nn` (0x85, R143): 2 bytes, 3 cycles. -/
def execStaZp (d : Byte) (s : State) : Answer :=
  .next (writeClass s.cpu.a (.zp d) 2 3 s)

/-- `STA $nnnn` (0x8D, R143): 3 bytes, 4 cycles. -/
def execStaAbs (w : Word) (s : State) : Answer :=
  .next (writeClass s.cpu.a (.abs w) 3 4 s)

/-- `STA ($nn),Y` (0x91, R143): 2 bytes, 6 cycles. -/
def execStaIndY (d : Byte) (s : State) : Answer :=
  .next (writeClass s.cpu.a (.indY d) 2 6 s)

/-- `STA $nn,X` (0x95, R143): 2 bytes, 4 cycles. -/
def execStaZpX (d : Byte) (s : State) : Answer :=
  .next (writeClass s.cpu.a (.zpX d) 2 4 s)

/-- `STA $nnnn,Y` (0x99, R143): 3 bytes, 5 cycles. -/
def execStaAbsY (w : Word) (s : State) : Answer :=
  .next (writeClass s.cpu.a (.absY w) 3 5 s)

/-- `STA $nnnn,X` (0x9D, R143): 3 bytes, 5 cycles. -/
def execStaAbsX (w : Word) (s : State) : Answer :=
  .next (writeClass s.cpu.a (.absX w) 3 5 s)

/-- `STX $nn` (0x86, R144): 2 bytes, 3 cycles. -/
def execStxZp (d : Byte) (s : State) : Answer :=
  .next (writeClass s.cpu.x (.zp d) 2 3 s)

/-- `STX $nnnn` (0x8E, R144): 3 bytes, 4 cycles. -/
def execStxAbs (w : Word) (s : State) : Answer :=
  .next (writeClass s.cpu.x (.abs w) 3 4 s)

/-- `STX $nn,Y` (0x96, R144): 2 bytes, 4 cycles. -/
def execStxZpY (d : Byte) (s : State) : Answer :=
  .next (writeClass s.cpu.x (.zpY d) 2 4 s)

/-- `STY $nn` (0x84, R145): 2 bytes, 3 cycles. -/
def execStyZp (d : Byte) (s : State) : Answer :=
  .next (writeClass s.cpu.y (.zp d) 2 3 s)

/-- `STY $nnnn` (0x8C, R145): 3 bytes, 4 cycles. -/
def execStyAbs (w : Word) (s : State) : Answer :=
  .next (writeClass s.cpu.y (.abs w) 3 4 s)

/-- `STY $nn,X` (0x94, R145): 2 bytes, 4 cycles. -/
def execStyZpX (d : Byte) (s : State) : Answer :=
  .next (writeClass s.cpu.y (.zpX d) 2 4 s)

/-- `TAX` (0xAA, R146): 1 byte, 2 cycles. -/
def execTax (s : State) : Answer :=
  .next (registerClass (fun c => loadX c.a c) 1 2 s)

/-- `TAY` (0xA8, R147): 1 byte, 2 cycles. -/
def execTay (s : State) : Answer :=
  .next (registerClass (fun c => loadY c.a c) 1 2 s)

/-- `TXA` (0x8A, R148): 1 byte, 2 cycles. -/
def execTxa (s : State) : Answer :=
  .next (registerClass (fun c => loadA c.x c) 1 2 s)

/-- `TYA` (0x98, R149): 1 byte, 2 cycles. -/
def execTya (s : State) : Answer :=
  .next (registerClass (fun c => loadA c.y c) 1 2 s)

/-- `TSX` (0xBA, R150): 1 byte, 2 cycles. -/
def execTsx (s : State) : Answer :=
  .next (registerClass (fun c => loadX c.sp c) 1 2 s)

/-- `TXS` (0x9A, R151): 1 byte, 2 cycles. -/
def execTxs (s : State) : Answer :=
  .next (registerClass copyXToSp 1 2 s)

end Sys2Proof.Machine
end

