-- ==== Sys2Proof/Machine/Shift.lean ====
section
/-!
DEFINITION. Shifts and rotates (43_shift_rotate.md R190 to R194).
-/
namespace Sys2Proof.Machine

/-- `ASL $nn` (0x06, R191): 2 bytes, 5 cycles. -/
def execAslZp (d : Byte) (s : State) : Answer :=
  .next (modifyClass aslCore (.zp d) 2 5 s)

/-- `ASL A` (0x0A, R191): 1 byte, 2 cycles. -/
def execAslAcc (s : State) : Answer :=
  .next (modifyAcc aslCore 1 2 s)

/-- `ASL $nnnn` (0x0E, R191): 3 bytes, 6 cycles. -/
def execAslAbs (w : Word) (s : State) : Answer :=
  .next (modifyClass aslCore (.abs w) 3 6 s)

/-- `ASL $nn,X` (0x16, R191): 2 bytes, 6 cycles. -/
def execAslZpX (d : Byte) (s : State) : Answer :=
  .next (modifyClass aslCore (.zpX d) 2 6 s)

/-- `ASL $nnnn,X` (0x1E, R191): 3 bytes, 7 cycles. -/
def execAslAbsX (w : Word) (s : State) : Answer :=
  .next (modifyClass aslCore (.absX w) 3 7 s)

/-- `LSR $nn` (0x46, R192): 2 bytes, 5 cycles. -/
def execLsrZp (d : Byte) (s : State) : Answer :=
  .next (modifyClass lsrCore (.zp d) 2 5 s)

/-- `LSR A` (0x4A, R192): 1 byte, 2 cycles. -/
def execLsrAcc (s : State) : Answer :=
  .next (modifyAcc lsrCore 1 2 s)

/-- `LSR $nnnn` (0x4E, R192): 3 bytes, 6 cycles. -/
def execLsrAbs (w : Word) (s : State) : Answer :=
  .next (modifyClass lsrCore (.abs w) 3 6 s)

/-- `LSR $nn,X` (0x56, R192): 2 bytes, 6 cycles. -/
def execLsrZpX (d : Byte) (s : State) : Answer :=
  .next (modifyClass lsrCore (.zpX d) 2 6 s)

/-- `LSR $nnnn,X` (0x5E, R192): 3 bytes, 7 cycles. -/
def execLsrAbsX (w : Word) (s : State) : Answer :=
  .next (modifyClass lsrCore (.absX w) 3 7 s)

/-- `ROL $nn` (0x26, R193): 2 bytes, 5 cycles. -/
def execRolZp (d : Byte) (s : State) : Answer :=
  .next (modifyClass rolCore (.zp d) 2 5 s)

/-- `ROL A` (0x2A, R193): 1 byte, 2 cycles. -/
def execRolAcc (s : State) : Answer :=
  .next (modifyAcc rolCore 1 2 s)

/-- `ROL $nnnn` (0x2E, R193): 3 bytes, 6 cycles. -/
def execRolAbs (w : Word) (s : State) : Answer :=
  .next (modifyClass rolCore (.abs w) 3 6 s)

/-- `ROL $nn,X` (0x36, R193): 2 bytes, 6 cycles. -/
def execRolZpX (d : Byte) (s : State) : Answer :=
  .next (modifyClass rolCore (.zpX d) 2 6 s)

/-- `ROL $nnnn,X` (0x3E, R193): 3 bytes, 7 cycles. -/
def execRolAbsX (w : Word) (s : State) : Answer :=
  .next (modifyClass rolCore (.absX w) 3 7 s)

/-- `ROR $nn` (0x66, R194): 2 bytes, 5 cycles. -/
def execRorZp (d : Byte) (s : State) : Answer :=
  .next (modifyClass rorCore (.zp d) 2 5 s)

/-- `ROR A` (0x6A, R194): 1 byte, 2 cycles. -/
def execRorAcc (s : State) : Answer :=
  .next (modifyAcc rorCore 1 2 s)

/-- `ROR $nnnn` (0x6E, R194): 3 bytes, 6 cycles. -/
def execRorAbs (w : Word) (s : State) : Answer :=
  .next (modifyClass rorCore (.abs w) 3 6 s)

/-- `ROR $nn,X` (0x76, R194): 2 bytes, 6 cycles. -/
def execRorZpX (d : Byte) (s : State) : Answer :=
  .next (modifyClass rorCore (.zpX d) 2 6 s)

/-- `ROR $nnnn,X` (0x7E, R194): 3 bytes, 7 cycles. -/
def execRorAbsX (w : Word) (s : State) : Answer :=
  .next (modifyClass rorCore (.absX w) 3 7 s)

end Sys2Proof.Machine
end

