-- ==== Sys2Proof/Machine/StackFlag.lean ====
section
/-!
DEFINITION. Stack, flag and no-operation instructions (45_stack_flag_misc.md R220 to R234).
-/
namespace Sys2Proof.Machine

/-- Pull a byte and put it into the registers (R221). -/
def pullInto (f : Byte → Cpu → Cpu) (s : State) : State :=
  let r := pull s
  r.2.setCpu (f r.1 r.2.cpu)

/-- PLP: `P <- (p & 0xCF) | 0x20` (R225). -/
def loadStatus (v : Byte) (c : Cpu) : Cpu := { c with p := storedStatus v }

/-- `PHA` (0x48, R222): 1 byte, 3 cycles. -/
def execPha (s : State) : Answer :=
  .next (retire (nextPc 1 s) 3 (push s.cpu.a s))

/-- `PHP` (0x08, R223): 1 byte, 3 cycles. -/
def execPhp (s : State) : Answer :=
  .next (retire (nextPc 1 s) 3 (push (pushedStatus s.cpu.p) s))

/-- `PLA` (0x68, R224): 1 byte, 4 cycles. -/
def execPla (s : State) : Answer :=
  .next (retire (nextPc 1 s) 4 (pullInto loadA s))

/-- `PLP` (0x28, R225): 1 byte, 4 cycles. -/
def execPlp (s : State) : Answer :=
  .next (retire (nextPc 1 s) 4 (pullInto loadStatus s))

/-- `CLC` (0x18, R226): 1 byte, 2 cycles. -/
def execClc (s : State) : Answer :=
  .next (registerClass (fun c => { c with p := setC false c.p }) 1 2 s)

/-- `CLD` (0xD8, R227): 1 byte, 2 cycles. -/
def execCld (s : State) : Answer :=
  .next (registerClass (fun c => { c with p := setD false c.p }) 1 2 s)

/-- `CLI` (0x58, R228): 1 byte, 2 cycles. -/
def execCli (s : State) : Answer :=
  .next (registerClass (fun c => { c with p := setI false c.p }) 1 2 s)

/-- `CLV` (0xB8, R229): 1 byte, 2 cycles. -/
def execClv (s : State) : Answer :=
  .next (registerClass (fun c => { c with p := setV false c.p }) 1 2 s)

/-- `SEC` (0x38, R230): 1 byte, 2 cycles. -/
def execSec (s : State) : Answer :=
  .next (registerClass (fun c => { c with p := setC true c.p }) 1 2 s)

/-- `SED` (0xF8, R231): 1 byte, 2 cycles. -/
def execSed (s : State) : Answer :=
  .next (registerClass (fun c => { c with p := setD true c.p }) 1 2 s)

/-- `SEI` (0x78, R232): 1 byte, 2 cycles. -/
def execSei (s : State) : Answer :=
  .next (registerClass (fun c => { c with p := setI true c.p }) 1 2 s)

/-- `NOP` (0xEA, R233): 1 byte, 2 cycles. -/
def execNop (s : State) : Answer :=
  .next (registerClass (fun c => c) 1 2 s)

end Sys2Proof.Machine
end

