-- ==== Sys2Proof/Machine/Dispatch.lean ====
section
/-! DEFINITION. The dispatch: one arm per constructor of `Instr`, in the opcode table's order (30_encoding.md R126). -/
namespace Sys2Proof.Machine

/-- What an instruction does, from the state after its fetch, PC still at its opcode. -/
def exec (i : Instr) (s : State) : Host.Outcome State Fault Refusal :=
  match i with
  | .brk => Sys2Proof.Machine.execBrk s
  | .oraIndX d => Sys2Proof.Machine.execOraIndX d s
  | .oraZp d => Sys2Proof.Machine.execOraZp d s
  | .aslZp d => Sys2Proof.Machine.execAslZp d s
  | .php => Sys2Proof.Machine.execPhp s
  | .oraImm v => Sys2Proof.Machine.execOraImm v s
  | .aslAcc => Sys2Proof.Machine.execAslAcc s
  | .oraAbs w => Sys2Proof.Machine.execOraAbs w s
  | .aslAbs w => Sys2Proof.Machine.execAslAbs w s
  | .bpl o => Sys2Proof.Machine.execBpl o s
  | .oraIndY d => Sys2Proof.Machine.execOraIndY d s
  | .oraZpX d => Sys2Proof.Machine.execOraZpX d s
  | .aslZpX d => Sys2Proof.Machine.execAslZpX d s
  | .clc => Sys2Proof.Machine.execClc s
  | .oraAbsY w => Sys2Proof.Machine.execOraAbsY w s
  | .oraAbsX w => Sys2Proof.Machine.execOraAbsX w s
  | .aslAbsX w => Sys2Proof.Machine.execAslAbsX w s
  | .jsr w => Sys2Proof.Machine.execJsr w s
  | .andIndX d => Sys2Proof.Machine.execAndIndX d s
  | .bitZp d => Sys2Proof.Machine.execBitZp d s
  | .andZp d => Sys2Proof.Machine.execAndZp d s
  | .rolZp d => Sys2Proof.Machine.execRolZp d s
  | .plp => Sys2Proof.Machine.execPlp s
  | .andImm v => Sys2Proof.Machine.execAndImm v s
  | .rolAcc => Sys2Proof.Machine.execRolAcc s
  | .bitAbs w => Sys2Proof.Machine.execBitAbs w s
  | .andAbs w => Sys2Proof.Machine.execAndAbs w s
  | .rolAbs w => Sys2Proof.Machine.execRolAbs w s
  | .bmi o => Sys2Proof.Machine.execBmi o s
  | .andIndY d => Sys2Proof.Machine.execAndIndY d s
  | .andZpX d => Sys2Proof.Machine.execAndZpX d s
  | .rolZpX d => Sys2Proof.Machine.execRolZpX d s
  | .sec => Sys2Proof.Machine.execSec s
  | .andAbsY w => Sys2Proof.Machine.execAndAbsY w s
  | .andAbsX w => Sys2Proof.Machine.execAndAbsX w s
  | .rolAbsX w => Sys2Proof.Machine.execRolAbsX w s
  | .rti => Sys2Proof.Machine.execRti s
  | .eorIndX d => Sys2Proof.Machine.execEorIndX d s
  | .eorZp d => Sys2Proof.Machine.execEorZp d s
  | .lsrZp d => Sys2Proof.Machine.execLsrZp d s
  | .pha => Sys2Proof.Machine.execPha s
  | .eorImm v => Sys2Proof.Machine.execEorImm v s
  | .lsrAcc => Sys2Proof.Machine.execLsrAcc s
  | .jmpAbs w => Sys2Proof.Machine.execJmpAbs w s
  | .eorAbs w => Sys2Proof.Machine.execEorAbs w s
  | .lsrAbs w => Sys2Proof.Machine.execLsrAbs w s
  | .bvc o => Sys2Proof.Machine.execBvc o s
  | .eorIndY d => Sys2Proof.Machine.execEorIndY d s
  | .eorZpX d => Sys2Proof.Machine.execEorZpX d s
  | .lsrZpX d => Sys2Proof.Machine.execLsrZpX d s
  | .cli => Sys2Proof.Machine.execCli s
  | .eorAbsY w => Sys2Proof.Machine.execEorAbsY w s
  | .eorAbsX w => Sys2Proof.Machine.execEorAbsX w s
  | .lsrAbsX w => Sys2Proof.Machine.execLsrAbsX w s
  | .rts => Sys2Proof.Machine.execRts s
  | .adcIndX d => Sys2Proof.Machine.execAdcIndX d s
  | .adcZp d => Sys2Proof.Machine.execAdcZp d s
  | .rorZp d => Sys2Proof.Machine.execRorZp d s
  | .pla => Sys2Proof.Machine.execPla s
  | .adcImm v => Sys2Proof.Machine.execAdcImm v s
  | .rorAcc => Sys2Proof.Machine.execRorAcc s
  | .jmpInd w => Sys2Proof.Machine.execJmpInd w s
  | .adcAbs w => Sys2Proof.Machine.execAdcAbs w s
  | .rorAbs w => Sys2Proof.Machine.execRorAbs w s
  | .bvs o => Sys2Proof.Machine.execBvs o s
  | .adcIndY d => Sys2Proof.Machine.execAdcIndY d s
  | .adcZpX d => Sys2Proof.Machine.execAdcZpX d s
  | .rorZpX d => Sys2Proof.Machine.execRorZpX d s
  | .sei => Sys2Proof.Machine.execSei s
  | .adcAbsY w => Sys2Proof.Machine.execAdcAbsY w s
  | .adcAbsX w => Sys2Proof.Machine.execAdcAbsX w s
  | .rorAbsX w => Sys2Proof.Machine.execRorAbsX w s
  | .staIndX d => Sys2Proof.Machine.execStaIndX d s
  | .styZp d => Sys2Proof.Machine.execStyZp d s
  | .staZp d => Sys2Proof.Machine.execStaZp d s
  | .stxZp d => Sys2Proof.Machine.execStxZp d s
  | .dey => Sys2Proof.Machine.execDey s
  | .txa => Sys2Proof.Machine.execTxa s
  | .styAbs w => Sys2Proof.Machine.execStyAbs w s
  | .staAbs w => Sys2Proof.Machine.execStaAbs w s
  | .stxAbs w => Sys2Proof.Machine.execStxAbs w s
  | .bcc o => Sys2Proof.Machine.execBcc o s
  | .staIndY d => Sys2Proof.Machine.execStaIndY d s
  | .styZpX d => Sys2Proof.Machine.execStyZpX d s
  | .staZpX d => Sys2Proof.Machine.execStaZpX d s
  | .stxZpY d => Sys2Proof.Machine.execStxZpY d s
  | .tya => Sys2Proof.Machine.execTya s
  | .staAbsY w => Sys2Proof.Machine.execStaAbsY w s
  | .txs => Sys2Proof.Machine.execTxs s
  | .staAbsX w => Sys2Proof.Machine.execStaAbsX w s
  | .ldyImm v => Sys2Proof.Machine.execLdyImm v s
  | .ldaIndX d => Sys2Proof.Machine.execLdaIndX d s
  | .ldxImm v => Sys2Proof.Machine.execLdxImm v s
  | .ldyZp d => Sys2Proof.Machine.execLdyZp d s
  | .ldaZp d => Sys2Proof.Machine.execLdaZp d s
  | .ldxZp d => Sys2Proof.Machine.execLdxZp d s
  | .tay => Sys2Proof.Machine.execTay s
  | .ldaImm v => Sys2Proof.Machine.execLdaImm v s
  | .tax => Sys2Proof.Machine.execTax s
  | .ldyAbs w => Sys2Proof.Machine.execLdyAbs w s
  | .ldaAbs w => Sys2Proof.Machine.execLdaAbs w s
  | .ldxAbs w => Sys2Proof.Machine.execLdxAbs w s
  | .bcs o => Sys2Proof.Machine.execBcs o s
  | .ldaIndY d => Sys2Proof.Machine.execLdaIndY d s
  | .ldyZpX d => Sys2Proof.Machine.execLdyZpX d s
  | .ldaZpX d => Sys2Proof.Machine.execLdaZpX d s
  | .ldxZpY d => Sys2Proof.Machine.execLdxZpY d s
  | .clv => Sys2Proof.Machine.execClv s
  | .ldaAbsY w => Sys2Proof.Machine.execLdaAbsY w s
  | .tsx => Sys2Proof.Machine.execTsx s
  | .ldyAbsX w => Sys2Proof.Machine.execLdyAbsX w s
  | .ldaAbsX w => Sys2Proof.Machine.execLdaAbsX w s
  | .ldxAbsY w => Sys2Proof.Machine.execLdxAbsY w s
  | .cpyImm v => Sys2Proof.Machine.execCpyImm v s
  | .cmpIndX d => Sys2Proof.Machine.execCmpIndX d s
  | .cpyZp d => Sys2Proof.Machine.execCpyZp d s
  | .cmpZp d => Sys2Proof.Machine.execCmpZp d s
  | .decZp d => Sys2Proof.Machine.execDecZp d s
  | .iny => Sys2Proof.Machine.execIny s
  | .cmpImm v => Sys2Proof.Machine.execCmpImm v s
  | .dex => Sys2Proof.Machine.execDex s
  | .cpyAbs w => Sys2Proof.Machine.execCpyAbs w s
  | .cmpAbs w => Sys2Proof.Machine.execCmpAbs w s
  | .decAbs w => Sys2Proof.Machine.execDecAbs w s
  | .bne o => Sys2Proof.Machine.execBne o s
  | .cmpIndY d => Sys2Proof.Machine.execCmpIndY d s
  | .cmpZpX d => Sys2Proof.Machine.execCmpZpX d s
  | .decZpX d => Sys2Proof.Machine.execDecZpX d s
  | .cld => Sys2Proof.Machine.execCld s
  | .cmpAbsY w => Sys2Proof.Machine.execCmpAbsY w s
  | .cmpAbsX w => Sys2Proof.Machine.execCmpAbsX w s
  | .decAbsX w => Sys2Proof.Machine.execDecAbsX w s
  | .cpxImm v => Sys2Proof.Machine.execCpxImm v s
  | .sbcIndX d => Sys2Proof.Machine.execSbcIndX d s
  | .cpxZp d => Sys2Proof.Machine.execCpxZp d s
  | .sbcZp d => Sys2Proof.Machine.execSbcZp d s
  | .incZp d => Sys2Proof.Machine.execIncZp d s
  | .inx => Sys2Proof.Machine.execInx s
  | .sbcImm v => Sys2Proof.Machine.execSbcImm v s
  | .nop => Sys2Proof.Machine.execNop s
  | .cpxAbs w => Sys2Proof.Machine.execCpxAbs w s
  | .sbcAbs w => Sys2Proof.Machine.execSbcAbs w s
  | .incAbs w => Sys2Proof.Machine.execIncAbs w s
  | .beq o => Sys2Proof.Machine.execBeq o s
  | .sbcIndY d => Sys2Proof.Machine.execSbcIndY d s
  | .sbcZpX d => Sys2Proof.Machine.execSbcZpX d s
  | .incZpX d => Sys2Proof.Machine.execIncZpX d s
  | .sed => Sys2Proof.Machine.execSed s
  | .sbcAbsY w => Sys2Proof.Machine.execSbcAbsY w s
  | .sbcAbsX w => Sys2Proof.Machine.execSbcAbsX w s
  | .incAbsX w => Sys2Proof.Machine.execIncAbsX w s

end Sys2Proof.Machine
end

