-- ==== Sys2Proof/Machine/Render.lean ====
section
/-!
DEFINITION. The frame renderer (60_exceptions.md R360 to R366), one function per pixel: the background, then the 64 sprites in OAM
order, a later opaque one over an earlier (log entry 9).
-/
namespace Sys2Proof.Machine

/-- `TilePixel(table, t, row, col)`: a 2-bit colour index (R362). -/
def tilePixel (table : Word) (t : Byte) (row col : Nat) (s : State) : Nat :=
  let base := table + 16#16 * t.setWidth 16 + BitVec.ofNat 16 row
  let lo := ppuRead base s
  let hi := ppuRead (base + 8#16) s
  (lo.getLsbD (7 - col)).toNat + 2 * (hi.getLsbD (7 - col)).toNat

/-- The background's pattern table, CTRL bit 4 (R361). -/
def backgroundTable (s : State) : Word := if s.ppu.ctrl.getLsbD 4 then 0x1000#16 else 0x0000#16

/-- `bg_index[y][x]` (R361). -/
def backgroundIndex (y x : Nat) (s : State) : Nat :=
  let t := ppuRead (0x2000#16 + BitVec.ofNat 16 (32 * (y / 8) + x / 8)) s
  tilePixel (backgroundTable s) t (y % 8) (x % 8) s

/-- The background's palette byte at a pixel (R361). -/
def backgroundPixel (y x : Nat) (s : State) : Byte :=
  ppuRead (0x3F00#16 + BitVec.ofNat 16 (backgroundIndex y x s)) s

/-- Sprite height, CTRL bit 5 (R363). -/
def spriteHeight (s : State) : Nat := if s.ppu.ctrl.getLsbD 5 then 16 else 8

/-- Colour index of line `row`, column `col` of a sprite with tile byte `t` (R363). -/
def spriteIndex (t : Byte) (row col : Nat) (s : State) : Nat :=
  if s.ppu.ctrl.getLsbD 5 then
    tilePixel (if t.getLsbD 0 then 0x1000#16 else 0x0000#16) ((t &&& 0xFE#8) + BitVec.ofNat 8 (row / 8)) (row % 8) col s
  else
    tilePixel (if s.ppu.ctrl.getLsbD 3 then 0x1000#16 else 0x0000#16) t row col s

/-- What sprite `n` draws at a pixel: none where it does not cover it or is transparent there (R363, R364). -/
def spritePixel (n y x : Nat) (s : State) : Option Byte :=
  let top := (s.oamByte (4 * n)).toNat
  let left := (s.oamByte (4 * n + 3)).toNat
  if top ≤ y ∧ y < top + spriteHeight s ∧ left ≤ x ∧ x < left + 8 then
    let i := spriteIndex (s.oamByte (4 * n + 1)) (y - top) (x - left) s
    let attr := (s.oamByte (4 * n + 2)).toNat
    if i = 0 then none else some (ppuRead (0x3F10#16 + BitVec.ofNat 16 (4 * (attr % 4) + i)) s)
  else none

/-- Draw sprites `n`, `n+1`, … in order over a pixel (R363). -/
def drawSprites : Nat → Nat → Nat → Nat → State → Byte → Byte
  | 0, _, _, _, _, v => v
  | k + 1, n, y, x, s, v => drawSprites k (n + 1) y x s ((spritePixel n y x s).getD v)

/-- The byte of the frame at row `y`, column `x` (R360). -/
def framePixel (y x : Nat) (s : State) : Byte := drawSprites 64 0 y x s (backgroundPixel y x s)

/-- `Render()`: 240 rows of 256 bytes (R360). -/
def render (s : State) : Frame :=
  (List.range 240).map fun y => (List.range 256).map fun x => framePixel y x s

end Sys2Proof.Machine
end

