-- ==== Sys2Proof/Machine/Driver.lean ====
section
/-!
DEFINITION. The driver loop but for the CPU step itself (70_reset_and_hazards.md R400 to R402, 60_exceptions.md R340 to R344, R380,
R381): breakpoint check, trace line, fetch, PPU ticks, NMI drain.
-/
namespace Sys2Proof.Machine

/-- VBlank set: STATUS bit 7 and the interrupt request (60_exceptions.md R341). -/
def setVBlank (s : State) : State :=
  s.setPpu { s.ppu with status := s.ppu.status ||| 0x80#8, nmiRequest := true }

/-- VBlank clear and frame completion (R342): the frame is rendered after the clear, emitted and counted. -/
def completeFrame (s : State) : State :=
  let t := s.setPpu { s.ppu with status := s.ppu.status &&& 0x7F#8 }
  let f := render t
  let t := emit (.frame f) (t.setPpu { t.ppu with frame := some f })
  t.setPpu { t.ppu with frameCount := t.ppu.frameCount + 1 }

/-- One PPU tick (R340): the counter first, then the tests on its new value. -/
def ppuTick (s : State) : State :=
  let c := (s.ppu.cycle + 1) % Config.frameLength
  let t := s.setPpu { s.ppu with cycle := c }
  let t := if c = Config.vblankSetCycle then setVBlank t else t
  if c = 0 then completeFrame t else t

/-- The PPU's share of one CPU cycle: three ticks, then `cycles_synced + 1` (70_reset_and_hazards.md R401). -/
def syncOne (s : State) : State :=
  let t := ppuTick (ppuTick (ppuTick s))
  t.setDriver { t.driver with cyclesSynced := t.driver.cyclesSynced + 1 }

/-- `syncOne`, `n` times. -/
def syncTimes : Nat → State → State
  | 0, s => s
  | n + 1, s => syncTimes n (syncOne s)

/-- `sync()`: once for every CPU cycle not yet converted (R401). No tick changes `cycles`. -/
def sync (s : State) : State := syncTimes (s.cpu.cycles - s.driver.cyclesSynced) s

/-- `drain()` (R402, 60_exceptions.md R305): the request is cleared; CTRL bit 7 as it stands decides whether the NMI is taken. -/
def drain (s : State) : State :=
  if s.ppu.nmiRequest then
    let t := s.setPpu { s.ppu with nmiRequest := false }
    if t.ppu.ctrl.getLsbD 7 then sync (interrupt Config.nmiVector t) else sync t
  else s

/-- Steps 4 and 5 of the iteration (R400). -/
def finishIteration (s : State) : State := drain (sync s)

/-- What the host presents at this iteration's check (00_scope.md R9): the next input it is known to present, else a fresh free value. -/
def sampleDebug (s : State) : DebugInput × State :=
  match s.host.checks with
  | d :: rest => (d, s.setHost { s.host with checks := rest })
  | [] =>
    let n := s.host.checkDraws
    ({ breakpoints := Config.hostBreakpoints n, command := Config.hostCommand n, tracing := Config.hostTracing n },
      s.setHost { s.host with checkDraws := n + 1 })

/-- How an iteration starts. -/
inductive Gate where
  /-- the iteration does nothing more; the state after the check -/
  | hold (s : State)
  /-- the iteration runs, from this state -/
  | run (s : State)
deriving DecidableEq, Repr

/-- Breakpoint check against what the host presents (60_exceptions.md R380, 70_reset_and_hazards.md R400 step 1). A single-step runs this
iteration and leaves `paused` as it was (log entry 6), a resume clears `paused` and runs it even at a breakpoint. -/
def breakpointGate (d : DebugInput) (s : State) : Gate :=
  match d.command with
  | some .singleStep => .run s
  | some .resume => .run (s.setDriver { s.driver with paused := false })
  | none =>
    if s.driver.paused then .hold s
    else if d.breakpoints.contains s.cpu.pc then .hold (s.setDriver { s.driver with paused := true })
    else .run s

/-- The fields of the trace line (60_exceptions.md R381). -/
def traceLine (s : State) : TraceLine :=
  { pc := s.cpu.pc, a := s.cpu.a, x := s.cpu.x, y := s.cpu.y, sp := s.cpu.sp, p := s.cpu.p }

/-- The text of a trace line, by the parameter TRACE_FORMAT (R381). -/
def traceText (l : TraceLine) : String := Config.traceFormat l

/-- Step 2 of the iteration: the trace line, when tracing is on (R381, R400). -/
def trace (tracing : Bool) (s : State) : State := if tracing then emit (.trace (traceLine s)) s else s

/-- Steps 1 and 2 of the iteration (R400): the host's inputs, the check, the trace line. -/
def startIteration (s : State) : Gate :=
  let r := sampleDebug s
  match breakpointGate r.1 r.2 with
  | .hold t => .hold t
  | .run t => .run (trace r.1.tracing t)

/-- What the fetch of one CPU step finds. -/
inductive Fetched where
  | instr (i : Instr)
  /-- an opcode byte that is not in the table: no operand byte is fetched (R300) -/
  | illegal (op : Byte)
deriving DecidableEq, Repr

/-- Fetch (30_encoding.md R102, R103): the opcode at PC, then the operand bytes its row asks for, each a full bus read, at addresses
that wrap mod 0x10000. PC is not moved. -/
def fetch (s : State) : Fetched × State :=
  let op := cpuRead s.cpu.pc s
  match decodeOpcode op.1 with
  | none => (.illegal op.1, op.2)
  | some (.bare i) => (.instr i, op.2)
  | some (.byte mk) =>
    let b1 := cpuRead (s.cpu.pc + 1#16) op.2
    (.instr (mk b1.1), b1.2)
  | some (.word mk) =>
    let b1 := cpuRead (s.cpu.pc + 1#16) op.2
    let b2 := cpuRead (s.cpu.pc + 2#16) b1.2
    (.instr (mk (wordOf b2.1 b1.1)), b2.2)

/-- The bytes a fetch reads from `pc` on, `n` of them, in order (R103). -/
def readBytes : Nat → Word → State → List Byte × State
  | 0, _, s => ([], s)
  | n + 1, pc, s =>
    let b := cpuRead pc s
    let rest := readBytes n (pc + 1#16) b.2
    (b.1 :: rest.1, rest.2)

end Sys2Proof.Machine
end

