-- ==== Sys2Proof/Machine/Placement.lean ====
section
/-!
DEFINITION. Placing one instruction where the next step fetches it. A program reaches this machine by the cartridge load, which also
decides where PC starts (70_reset_and_hazards.md R406, R407); this stands for that load (log entry 2).
-/
namespace Sys2Proof.Machine

/-- The start of the program window, where the placed instruction stands (20_memory.md R83). -/
def placedAt : Nat := 0x8000

/-- Store a list of bytes from CPU memory address `p` on, with no bus access. -/
def putCpuBytes : Nat → List Byte → State → State
  | _, [], s => s
  | p, b :: rest, s => putCpuBytes (p + 1) rest (putCpuByte p b s)

/-- `s` with the table word's bytes at the start of the program window, PC there, no pause, and at the next
check a host that presents no breakpoint and no command. -/
def placeTableWord (s : State) (nbits w : Nat) : State :=
  let t := putCpuBytes placedAt (tableBytes nbits w) s
  let t := t.setCpu { t.cpu with pc := BitVec.ofNat 16 placedAt }
  let t := t.setDriver { t.driver with paused := false }
  t.setHost { t.host with checks := [{ breakpoints := [], command := none, tracing := false }] }

end Sys2Proof.Machine
end

