-- ==== Sys2Proof/Machine/Step.lean ====
section
/-!
DEFINITION. The step: one driver iteration (70_reset_and_hazards.md R400).
-/
namespace Sys2Proof.Machine

/-- Steps 4 and 5 after an instruction's answer. -/
def afterExec : Host.Outcome State Fault Refusal → Host.Outcome State Fault Refusal
  | .next t => .next (finishIteration t)
  | .fault f => .fault f
  | .refused r => .refused r

/-- Step 3, one CPU step, with steps 4 and 5 (R400): an instruction, or the report of an illegal opcode. -/
def cpuStep (s : State) : Host.Outcome State Fault Refusal :=
  match fetch s with
  | (.instr i, t) => afterExec (exec i t)
  | (.illegal op, t) => .next (finishIteration (reportIllegal op t))

/-- One driver iteration (R400): breakpoint check, trace, CPU step, PPU synchronisation, NMI drain. -/
def step (s : State) : Host.Outcome State Fault Refusal :=
  match startIteration s with
  | .hold t => .next t
  | .run t => cpuStep t

/-- `s` with the instruction whose bits are `w` stored where the next step fetches (log entry 2). -/
def State.withFetchWord (s : State) (nbits w : Nat) : State := placeTableWord s nbits w

end Sys2Proof.Machine
end

