-- ==== Sys2Proof/Machine/Run.lean ====
section
/-!
DEFINITION. The end of a run (70_reset_and_hazards.md R418): the CORE has no halt; TERMINAL_PC and MAX_ITERATIONS are arguments.
-/
namespace Sys2Proof.Machine

/-- Whether the instruction at PC is `JMP PC`, the idle loop (R418). The look changes no state. -/
def atSelfJump (s : State) : Bool :=
  (fetch s).1 == .instr (.jmpAbs s.cpu.pc)

/-- Whether a run ends at this iteration boundary (R418): at TERMINAL_PC when one is given, else at the idle loop. -/
def runEnded (terminalPc : Option Word) (s : State) : Bool :=
  match terminalPc with
  | some t => s.cpu.pc == t
  | none => atSelfJump s

/-- How a run ends. -/
inductive RunEnd where
  /-- the state at the boundary, before the instruction there runs, and the iterations left -/
  | ended (s : State) (left : Nat)
  /-- MAX_ITERATIONS reached: no end state is reported (92_eei_decisions.md D35) -/
  | budgetSpent
  /-- a step stopped -/
  | stopped
deriving DecidableEq, Repr

/-- Run until the end of the run or until `maxIterations` steps are spent (R418). -/
def runUntilEnd (terminalPc : Option Word) : Nat → State → RunEnd
  | 0, s => if runEnded terminalPc s then .ended s 0 else .budgetSpent
  | n + 1, s =>
    if runEnded terminalPc s then .ended s (n + 1)
    else
      match step s with
      | .next t => runUntilEnd terminalPc n t
      | .fault _ => .stopped
      | .refused _ => .stopped

end Sys2Proof.Machine
end

