-- ==== Sys2Proof/Machine/Cartridge.lean ====
section
/-!
DEFINITION. Cartridge load and reset from it (70_reset_and_hazards.md R406 to R410): the machine of a run, from the image the loader
hands over. `State.reset` (Machine/State.lean) is the same machine with the parameters PRG, CHR and MIRRORING left open.
-/
namespace Sys2Proof.Machine

/-- Byte `n` of a cartridge image; the load reads none past its end (R409). -/
def imageByte (image : List Byte) (n : Nat) : Byte := image.getD n 0#8

/-- Header byte 4: the number of 16384-byte program banks (R410). -/
def prgBanks (image : List Byte) : Nat := (imageByte image 4).toNat

/-- Header byte 5: the number of 8192-byte character banks (R410). -/
def chrBanks (image : List Byte) : Nat := (imageByte image 5).toNat

/-- Header byte 6 bit 2: 512 trainer bytes precede the program data and are skipped (R410). -/
def trainerLength (image : List Byte) : Nat := if (imageByte image 6).getLsbD 2 then 512 else 0

/-- Header byte 6 bit 0 (R410); bit 3, four-screen, is ignored (92_eei_decisions.md D30). -/
def imageMirroring (image : List Byte) : Mirroring :=
  if (imageByte image 6).getLsbD 0 then .vertical else .horizontal

/-- The image is long enough for its header and for the banks the header declares (R409). -/
def imageLongEnough (image : List Byte) : Bool :=
  decide (16 ≤ image.length) &&
  decide (16 + trainerLength image + 16384 * prgBanks image + 8192 * chrBanks image ≤ image.length)

/-- The bank counts are ones the fixed mapping can load (R409). -/
def imageBanksFixed (image : List Byte) : Bool :=
  (prgBanks image == 1 || prgBanks image == 2) && (chrBanks image == 0 || chrBanks image == 1)

/-- The image the CORE accepts; every other one is a RomFormatError (R409). -/
def imageWellFormed (image : List Byte) : Bool := imageLongEnough image && imageBanksFixed image

/-- The program data (R410). -/
def imagePrg (image : List Byte) : List Byte :=
  (image.drop (16 + trainerLength image)).take (16384 * prgBanks image)

/-- The character data (R410). -/
def imageChr (image : List Byte) : List Byte :=
  (image.drop (16 + trainerLength image + 16384 * prgBanks image)).take (8192 * chrBanks image)

/-- The bytes of a list at consecutive addresses from `base` on. -/
def listFrom : Nat → List Byte → Memory
  | _, [] => []
  | base, b :: rest => (base, b) :: listFrom (base + 1) rest

/-- The program window 0x8000-0xFFFF: one bank appears in both halves (R407). -/
def prgWindow (image : List Byte) : List Byte :=
  if prgBanks image = 1 then imagePrg image ++ imagePrg image else imagePrg image

/-- Reset from a cartridge image (R406): refusal creates no state (R409); otherwise the reset values, the mirroring of the header,
the program and character data in place, and PC read from the loaded reset vector with no bus access. -/
def loadCartridge (image : List Byte) : Host.Outcome State Fault Refusal :=
  if imageWellFormed image then
    let s := { State.reset with
      params := { State.reset.params with mirroring := imageMirroring image }
      mem := { State.reset.mem with cpu := listFrom 0x8000 (prgWindow image), ppu := listFrom 0 (imageChr image) } }
    .next (s.setCpu { s.cpu with pc := wordOf (s.cpuByte 0xFFFD) (s.cpuByte 0xFFFC) })
  else .fault .romFormatError

end Sys2Proof.Machine
end

