-- ==== Sys2Proof/Safety.lean ====
section
/-!
DEFINITION. What counts as a safe run, and the terms the claims are stated in: the invariants, the frames ("nothing else changed")
and one shape of statement per access class of 30_encoding.md R124. These are statements about `exec` and `step`; none defines what
the machine does.
-/
namespace Sys2Proof.Machine

/-! ### Safe states and invariants -/

/-- No illegal opcode has been reported; claims about ordinary runs take this as a premise (93_implementation_defined.md I2). -/
def State.clean (s : State) : Bool := !s.diag.illegalSeen

/-- Bits 5 and 4 of P are held as 1 and 0 (10_state.md R26). -/
def StatusHeld (s : State) : Prop := s.cpu.p.getLsbD 5 = true ∧ s.cpu.p.getLsbD 4 = false

/-- Bits 6:0 of the PPU's STATUS are 0 (10_state.md R36). -/
def VBlankOnly (s : State) : Prop := s.ppu.status &&& 0x7F#8 = 0#8

/-- `ppu_cycle` and `pad_cursor` are in their ranges (10_state.md R42, R46). -/
def CountersInRange (s : State) : Prop := s.ppu.cycle < Config.frameLength ∧ s.pad.cursor ≤ 8

/-- The ratio invariant of an iteration boundary (70_reset_and_hazards.md R405). -/
def ClockRatio (s : State) : Prop :=
  s.driver.cyclesSynced = s.cpu.cycles ∧ s.ppu.cycle = (3 * s.cpu.cycles) % Config.frameLength ∧
  s.ppu.frameCount = (3 * s.cpu.cycles) / Config.frameLength

/-- A frame is 240 rows of 256 bytes (10_state.md R44). -/
def FrameShape (f : Frame) : Prop := f.length = 240 ∧ ∀ row ∈ f, row.length = 256

/-! ### Frames -/

/-- Pattern, palette, nametable and OAM bytes all read as before. -/
def SamePpuSide (s t : State) : Prop :=
  (∀ c, t.ppuByte c = s.ppuByte c) ∧ (∀ n, t.ntByte n = s.ntByte n) ∧ (∀ i, t.oamByte i = s.oamByte i)

/-- Every byte of every memory reads as before. -/
def SameBytes (s t : State) : Prop := (∀ p, t.cpuByte p = s.cpuByte p) ∧ SamePpuSide s t

/-- No device, driver, diagnostic, host or parameter field changed. -/
def SameDevices (s t : State) : Prop :=
  t.ppu = s.ppu ∧ t.pad = s.pad ∧ t.driver = s.driver ∧ t.diag = s.diag ∧ t.host = s.host ∧ t.params = s.params

/-- What bus reads leave alone whatever they address (20_memory.md R82): every memory byte, every PPU register but STATUS, the
toggle, the address latch and the buffer, the write log, the driver, the diagnostics and the parameters; the host's inputs but for
the draw counter. -/
def ReadFrame (s t : State) : Prop :=
  SameBytes s t ∧
  t.ppu = { s.ppu with status := t.ppu.status, w := t.ppu.w, intlAddr := t.ppu.intlAddr, buffer := t.ppu.buffer } ∧
  t.bus.lastWrite = s.bus.lastWrite ∧ t.driver = s.driver ∧ t.diag = s.diag ∧ t.params = s.params ∧
  t.host = { s.host with draws := t.host.draws }

/-- P after an instruction: the six flags, and bits 5 and 4 as before. -/
def StatusIs (p p' : Byte) (n v d i z c : Bool) : Prop :=
  flagN p' = n ∧ flagV p' = v ∧ flagD p' = d ∧ flagI p' = i ∧ flagZ p' = z ∧ flagC p' = c ∧
  p'.getLsbD 5 = p.getLsbD 5 ∧ p'.getLsbD 4 = p.getLsbD 4

/-- N and Z from a result, every other flag as before (00_scope.md R12). -/
def OnlyNZ (r p p' : Byte) : Prop :=
  StatusIs p p' (r.getLsbD 7) (flagV p) (flagD p) (flagI p) (r == 0#8) (flagC p)

/-- N, Z and C, every other flag as before. -/
def OnlyNZC (r : Byte) (c : Bool) (p p' : Byte) : Prop :=
  StatusIs p p' (r.getLsbD 7) (flagV p) (flagD p) (flagI p) (r == 0#8) c

/-- Of the four general registers and P, an instruction wrote A and P only. -/
def OnlyA (r : Byte) (c c' : Cpu) : Prop := c' = { c with a := r, p := c'.p, pc := c'.pc, cycles := c'.cycles }

/-- It wrote X and P only. -/
def OnlyX (r : Byte) (c c' : Cpu) : Prop := c' = { c with x := r, p := c'.p, pc := c'.pc, cycles := c'.cycles }

/-- It wrote Y and P only. -/
def OnlyY (r : Byte) (c c' : Cpu) : Prop := c' = { c with y := r, p := c'.p, pc := c'.pc, cycles := c'.cycles }

/-- It wrote P only. -/
def OnlyP (c c' : Cpu) : Prop := c' = { c with p := c'.p, pc := c'.pc, cycles := c'.cycles }

/-- The encoding of an instruction: its opcode byte and its length (30_encoding.md R126). -/
def EncodedAs (i : Instr) (op : Byte) (len : Nat) : Prop := (encode i).head? = some op ∧ (encode i).length = len

/-! ### Shapes of statements about one instruction -/

/-- An instruction on registers alone: it completes, changes CPU registers only, moves PC by its length and charges its cycles;
`post` relates the registers before and after. -/
def RegisterInstr (i : Instr) (op : Byte) (len base : Nat) (post : Cpu → Cpu → Prop) : Prop :=
  EncodedAs i op len ∧ ∀ s : State, ∃ t, exec i s = .next t ∧ t = s.setCpu t.cpu ∧ SameBytes s t ∧
    t.cpu.pc = s.cpu.pc + BitVec.ofNat 16 len ∧ t.cpu.cycles = s.cpu.cycles + base ∧ post s.cpu t.cpu

/-- An instruction that reads one operand: it completes, and outside the CPU registers it leaves what the operand's own bus reads
leave; `post` relates the operand value and the registers before and after. The extra cycle is 70_reset_and_hazards.md R404. -/
def ReadInstr (i : Instr) (op : Byte) (o : Operand) (len base : Nat) (penalty : Bool)
    (post : Byte → Cpu → Cpu → Prop) : Prop :=
  EncodedAs i op len ∧ ∀ s : State, ∃ t, exec i s = .next t ∧ t = (readOperand o s).2.setCpu t.cpu ∧ ReadFrame s t ∧
    t.cpu.pc = s.cpu.pc + BitVec.ofNat 16 len ∧
    t.cpu.cycles = s.cpu.cycles + base +
      (if s.params.extraCycles = .nmos ∧ penalty = true ∧ (readOperand o s).1.2 = true then 1 else 0) ∧
    post (readOperand o s).1.1 s.cpu t.cpu

/-- An instruction that stores one register byte: it completes, changes no register but PC and cycles, writes the byte to the
physical address of the effective address unless a hook claims it, and leaves every other byte. A claimed write is the hook's. -/
def StoreInstr (i : Instr) (op : Byte) (value : Cpu → Byte) (m : Mode) (len base : Nat) : Prop :=
  EncodedAs i op len ∧ ∀ s : State, ∃ t, exec i s = .next t ∧
    t.cpu = { s.cpu with pc := s.cpu.pc + BitVec.ofNat 16 len, cycles := s.cpu.cycles + base } ∧
    t.driver = s.driver ∧ t.diag = s.diag ∧ t.params = s.params ∧
    (let ea := (resolve m s).1.addr
     let p := cpuMirror ea
     t.bus.lastWrite = some p ∧
     (∀ q, q ≠ p.toNat ∨ writeHooked p = true → t.cpuByte q = s.cpuByte q) ∧
     (writeHooked p = false → t.cpuByte p.toNat = value s.cpu ∧ SamePpuSide s t ∧ SameDevices s t ∧
       t.bus.lastRead = (resolve m s).2.bus.lastRead) ∧
     (writeHooked p = true → t = (cpuWrite ea (value s.cpu) (resolve m s).2).setCpu t.cpu))

/-- A read-modify-write instruction on memory: one bus read of the effective address, one bus write of the result, then the flags.
`result` gives the byte written from the operand and P, `post` relates the operand and P before and after. -/
def ModifyInstr (i : Instr) (op : Byte) (m : Mode) (len base : Nat) (result : Byte → Byte → Byte)
    (post : Byte → Byte → Byte → Prop) : Prop :=
  EncodedAs i op len ∧ ∀ s : State, ∃ t, exec i s = .next t ∧
    (let ea := (resolve m s).1.addr
     let p := cpuMirror ea
     let r := cpuRead ea (resolve m s).2
     t.cpu = { s.cpu with p := t.cpu.p, pc := s.cpu.pc + BitVec.ofNat 16 len, cycles := s.cpu.cycles + base } ∧
     post r.1 s.cpu.p t.cpu.p ∧
     t.driver = s.driver ∧ t.diag = s.diag ∧ t.params = s.params ∧
     t.bus.lastWrite = some p ∧
     (∀ q, q ≠ p.toNat ∨ writeHooked p = true → t.cpuByte q = s.cpuByte q) ∧
     (writeHooked p = false → r.1 = s.cpuByte p.toNat ∧ t.cpuByte p.toNat = result r.1 s.cpu.p ∧ SamePpuSide s t ∧
       SameDevices s t ∧ t.bus.lastRead = some p) ∧
     (writeHooked p = true → t = (cpuWrite ea (result r.1 s.cpu.p) r.2).setCpu t.cpu))

/-- A conditional branch (44_control_flow.md R200): it completes, writes PC and cycles only, and goes to `npc + sext(b1)` exactly
when the condition holds. -/
def BranchInstr (i : Instr) (op b1 : Byte) (cond : Byte → Bool) : Prop :=
  encode i = [op, b1] ∧ ∀ s : State,
    let npc := s.cpu.pc + 2#16
    let target := npc + b1.signExtend 16
    exec i s = .next (s.setCpu { s.cpu with
      pc := if cond s.cpu.p then target else npc
      cycles := s.cpu.cycles + 2 +
        (if s.params.extraCycles = .nmos ∧ cond s.cpu.p = true then (if pageCrossed npc target then 2 else 1) else 0) })

/-- The CPU memory index of the stack byte `k` places below SP (10_state.md R22, wrapping in page 1). -/
def stackIndex (s : State) (k : Nat) : Nat := 0x100 + (s.cpu.sp - BitVec.ofNat 8 k).toNat

/-- The CPU memory index of the stack byte `k` places above SP. -/
def stackIndexUp (s : State) (k : Nat) : Nat := 0x100 + (s.cpu.sp + BitVec.ofNat 8 k).toNat

/-- Taking an exception with saved PC `saved` through the vector at `vector` (60_exceptions.md R304): the three bytes pushed, SP
three lower, I set, PC from the vector, the cycles charged, and nothing else changed but the
transaction log, which shows the last push and the last vector read. -/
def ExceptionEntry (saved : Word) (vector : Nat) (cost : Nat) (s t : State) : Prop :=
  (t.cpuByte (stackIndex s 0)).toNat = saved.toNat / 256 ∧
  (t.cpuByte (stackIndex s 1)).toNat = saved.toNat % 256 ∧
  t.cpuByte (stackIndex s 2) = s.cpu.p ||| 0x30#8 ∧
  (∀ q, q ≠ stackIndex s 0 → q ≠ stackIndex s 1 → q ≠ stackIndex s 2 → t.cpuByte q = s.cpuByte q) ∧
  t.cpu = { s.cpu with sp := s.cpu.sp - 3#8, p := t.cpu.p, pc := wordOf (s.cpuByte (vector + 1)) (s.cpuByte vector),
                       cycles := s.cpu.cycles + cost } ∧
  StatusIs s.cpu.p t.cpu.p (flagN s.cpu.p) (flagV s.cpu.p) (flagD s.cpu.p) true (flagZ s.cpu.p) (flagC s.cpu.p) ∧
  SamePpuSide s t ∧ SameDevices s t ∧
  t.bus = { lastRead := some (BitVec.ofNat 16 (vector + 1)), lastWrite := some (BitVec.ofNat 16 (stackIndex s 2)) }

/-! ### Repeated operations -/

/-- Push a list, its head first (45_stack_flag_misc.md R234). -/
def pushAll : List Byte → State → State
  | [], s => s
  | v :: rest, s => pushAll rest (push v s)

/-- Pull `n` bytes, the first pulled first (R234). -/
def pullMany : Nat → State → List Byte × State
  | 0, s => ([], s)
  | n + 1, s =>
    let b := pull s
    let rest := pullMany n b.2
    (b.1 :: rest.1, rest.2)

/-- Read the controller port `n` times (60_exceptions.md R372). -/
def readPadMany : Nat → State → List Byte
  | 0, _ => []
  | n + 1, s =>
    let b := cpuRead 0x4016#16 s
    b.1 :: readPadMany n b.2

/-- `n` PPU ticks (60_exceptions.md R340). -/
def ticks : Nat → State → State
  | 0, s => s
  | n + 1, s => ticks n (ppuTick s)

/-! ### Two machines that differ only in outputs -/

/-- Equal but for what the CORE only records: the transaction log, the scroll bytes, the frame and its count, the diagnostics
(10_state.md R29, R41, R44, R45). -/
def SameButOutputs (s t : State) : Prop :=
  t.cpu = s.cpu ∧ t.mem = s.mem ∧ t.pad = s.pad ∧ t.driver = s.driver ∧ t.host = s.host ∧ t.params = s.params ∧
  t.ppu = { s.ppu with scrollX := t.ppu.scrollX, scrollY := t.ppu.scrollY, frame := t.ppu.frame, frameCount := t.ppu.frameCount }

end Sys2Proof.Machine
end

