-- ==== Sys2Proof/Certificates/Slice0/Obligations.lean ====
section
/-!
DEFINITION. The statements for the provers, one `def Obligations.<Name> : Prop` each; OBLIGATIONS.json says which rule of spec/ each
one formalises. The shapes they share (`ReadInstr`, `StoreInstr`, …) stand in Safety.lean.
-/
section Slice0Statements

open Sys2Proof Sys2Proof.Machine

/-! ### Encoding and the step -/

/-- Decoding the bytes of an instruction gives it back, whatever bytes follow, and the bytes a decoded instruction was read from are its
encoding: every operand value of every form, and no two byte strings for one instruction (30_encoding.md R100, R101, R126). -/
def Obligations.DecodeEncodeRoundTrip : Prop :=
  ∀ (i : Instr) (bytes rest : List Byte), decode bytes = .ok i rest ↔ bytes = encode i ++ rest

/-- Every byte is one of the 151 opcodes or one of the 105 illegal bytes of R127, and none is both (R127, R128). -/
def Obligations.OpcodeOrIllegalByte : Prop :=
  opcodeTable.length = 151 ∧ illegalOpcodes.length = 105 ∧ illegalOpcodes.Nodup ∧
  ∀ op : Byte, ((decodeOpcode op).isSome = true ↔ op ∈ opcodeTable.map Prod.fst) ∧
    (decodeOpcode op = none ↔ op ∈ illegalOpcodes)

/-- Words written out from the opcode table and the operand rules decode to the instruction they stand for (a sanity statement). -/
def Obligations.SampleWordsDecode : Prop :=
  decodeTableWord 16 0b1000000010101001 = some (.ldaImm 0x80#8) ∧
  decodeTableWord 24 0b000010000000000010001101 = some (.staAbs 0x0800#16) ∧
  decodeTableWord 16 0b0101000001101001 = some (.adcImm 0x50#8) ∧
  decodeTableWord 8 0b00001010 = some .aslAcc ∧
  decodeTableWord 16 0b0000111010010000 = some (.bcc 0x0E#8) ∧
  decodeTableWord 24 0b000000101111111101101100 = some (.jmpInd 0x02FF#16) ∧
  decodeTableWord 8 0b00101000 = some .plp ∧
  decodeTableWord 8 0b00000010 = none

/-- When an iteration runs (breakpoint check passed, trace line appended: `t`) and the bytes at PC, read through the bus in order, decode
to an instruction, the iteration is that instruction on the state after the fetch, then the PPU ticks it owes, then the NMI drain
(R102, R103, 70_reset_and_hazards.md R400). -/
def Obligations.StepRunsDecodedInstruction : Prop :=
  ∀ (s t u : State) (n : Nat) (bytes : List Byte) (i : Instr),
    startIteration s = .run t →
    readBytes n t.cpu.pc t = (bytes, u) →
    decode bytes = .ok i [] →
    step s = afterExec (exec i u) ∧ ∀ v, exec i u = .next v → step s = .next (drain (sync v))

/-- An illegal opcode byte at PC: the report, the mark, PC one further, two cycles, and nothing else but the opcode fetch itself
(60_exceptions.md R300); then the PPU ticks and the drain. `t` is the state after the breakpoint check and the trace line. -/
def Obligations.IllegalOpcodeStep : Prop :=
  ∀ (s t : State), startIteration s = .run t →
    let r := cpuRead t.cpu.pc t
    r.1 ∈ illegalOpcodes →
    step s = .next (finishIteration
      { r.2 with
        cpu := { t.cpu with pc := t.cpu.pc + 1#16, cycles := t.cpu.cycles + 2 }
        diag := { illegalSeen := true, events := t.diag.events ++ [.illegalInstruction t.cpu.pc r.1] } })

/-! ### Reset and load -/

/-- Every field the spec gives a reset value holds it (10_state.md R49). That the four memories list nothing and read as the free reset
content, that PC comes from that content, and that `frame` is none are the model's form of it (log entries 1, 2 and 8). -/
def Obligations.ResetValues : Prop :=
  let s := State.reset
  s.cpu = { a := 0#8, x := 0#8, y := 0#8, sp := 0xFD#8, pc := wordOf (s.cpuByte 0xFFFD) (s.cpuByte 0xFFFC), p := 0x24#8, cycles := 0 } ∧
  s.ppu = { ctrl := 0#8, mask := 0#8, status := 0#8, oamaddr := 0#8, w := false, intlAddr := 0#16, buffer := 0#8, scrollX := 0#8,
            scrollY := 0#8, cycle := 0, nmiRequest := false, frame := none, frameCount := 0 } ∧
  s.mem = { cpu := [], ppu := [], nt := [], oam := [] } ∧
  (∀ p, s.cpuByte p = Config.cpuMemInit p) ∧ (∀ c, s.ppuByte c = Config.ppuMemInit c) ∧
  (∀ n, s.ntByte n = Config.ntInit n) ∧ (∀ i, s.oamByte i = Config.oamInit i) ∧
  s.bus = { lastRead := none, lastWrite := none } ∧
  s.pad = { latch := 0#8, cursor := 0, strobe := false } ∧
  s.driver = { cyclesSynced := 0, paused := false } ∧
  s.diag = { illegalSeen := false, events := [] }

/-- A cartridge image the CORE accepts loads, and the state holds what R406 to R408 and R410 say: program bytes in the window, one
bank in both halves, character bytes in the pattern region, the header's mirroring, PC from the loaded reset vector, the rest as R49. -/
def Obligations.LoadPlacesTheCartridge : Prop :=
  ∀ image : List Byte,
    let prg := (image.getD 4 0#8).toNat
    let chr := (image.getD 5 0#8).toNat
    let start := 16 + (if (image.getD 6 0#8).getLsbD 2 then 512 else 0)
    (prg = 1 ∨ prg = 2) → (chr = 0 ∨ chr = 1) → start + 16384 * prg + 8192 * chr ≤ image.length →
    ∃ t, loadCartridge image = .next t ∧
      t.params.mirroring = (if (image.getD 6 0#8).getLsbD 0 then .vertical else .horizontal) ∧
      (∀ i, i < 16384 * prg → t.cpuByte (0x8000 + i) = image.getD (start + i) 0#8) ∧
      (prg = 1 → ∀ i, i < 16384 → t.cpuByte (0xC000 + i) = image.getD (start + i) 0#8) ∧
      (∀ p, p < 0x8000 → t.cpuByte p = Config.cpuMemInit p) ∧
      (∀ i, i < 8192 * chr → t.ppuByte i = image.getD (start + 16384 * prg + i) 0#8) ∧
      (∀ c, 8192 * chr ≤ c → t.ppuByte c = Config.ppuMemInit c) ∧
      (∀ n, t.ntByte n = Config.ntInit n) ∧ (∀ i, t.oamByte i = Config.oamInit i) ∧
      t.cpu = { a := 0#8, x := 0#8, y := 0#8, sp := 0xFD#8, pc := wordOf (t.cpuByte 0xFFFD) (t.cpuByte 0xFFFC), p := 0x24#8,
                cycles := 0 } ∧
      t.ppu = State.reset.ppu ∧ t.bus = { lastRead := none, lastWrite := none } ∧
      t.pad = { latch := 0#8, cursor := 0, strobe := false } ∧ t.driver = { cyclesSynced := 0, paused := false } ∧
      t.diag = { illegalSeen := false, events := [] }

/-- The load is refused exactly when the image is shorter than its header or than the banks the header declares, or a bank count is
outside the fixed mapping; bytes after the character data change nothing (R409). -/
def Obligations.LoadRefusal : Prop :=
  ∀ image extra : List Byte,
    let prg := (image.getD 4 0#8).toNat
    let chr := (image.getD 5 0#8).toNat
    let trainer := if (image.getD 6 0#8).getLsbD 2 then 1 else 0
    (loadCartridge image = .fault .romFormatError ↔
      image.length < 16 ∨ image.length < 16 + 512 * trainer + 16384 * prg + 8192 * chr ∨ (prg ≠ 1 ∧ prg ≠ 2) ∨ (chr ≠ 0 ∧ chr ≠ 1)) ∧
    (loadCartridge image ≠ .fault .romFormatError → loadCartridge (image ++ extra) = loadCartridge image)

/-- The invariants of Safety.lean hold at `State.reset` and right after every load. -/
def Obligations.ResetAndLoadMeetInvariants : Prop :=
  (State.reset.mem.wf = true ∧ StatusHeld State.reset ∧ VBlankOnly State.reset ∧ CountersInRange State.reset ∧ ClockRatio State.reset) ∧
  ∀ (image : List Byte) (t : State), loadCartridge image = .next t →
    t.mem.wf = true ∧ StatusHeld t ∧ VBlankOnly t ∧ CountersInRange t ∧ ClockRatio t

/-! ### Mirroring and the bus -/

/-- The CPU mirror by ranges, its idempotence and its image (20_memory.md R62, R63). -/
def Obligations.CpuMirrorRanges : Prop :=
  ∀ a : Word,
    (cpuMirror a).toNat =
      (if a.toNat ≤ 0x1FFF then a.toNat % 0x800 else if a.toNat ≤ 0x3FFF then 0x2000 + a.toNat % 8 else a.toNat) ∧
    cpuMirror (cpuMirror a) = cpuMirror a ∧
    ((∃ b, cpuMirror b = a) ↔ a.toNat ≤ 0x7FF ∨ (0x2000 ≤ a.toNat ∧ a.toNat ≤ 0x2007) ∨ 0x4000 ≤ a.toNat)

/-- The PPU mirror by ranges of the address mod 0x4000, its idempotence and its range (R64). -/
def Obligations.PpuMirrorRanges : Prop :=
  ∀ (m : Mirroring) (addr : Word),
    let n := addr.toNat % 0x4000
    let k := n % 0x1000
    let c := (ppuMirror m addr).toNat
    c = (if n < 0x2000 then n
         else if 0x3F00 ≤ n then 0x3F00 + n % 0x20
         else match m with
           | .vertical => 0x2000 + k % 0x800
           | .horizontal => 0x2000 + 0x800 * (k / 0x800) + k % 0x400) ∧
    ppuMirror m (ppuMirror m addr) = ppuMirror m addr ∧
    (c ≤ 0x1FFF ∨ (0x2000 ≤ c ∧ c ≤ 0x2FFF) ∨ (0x3F00 ≤ c ∧ c ≤ 0x3F1F))

/-- The nametable fold (R65); the slot of every PPU address, and the slots no address reaches (R72). -/
def Obligations.NametableFoldAndSlots : Prop :=
  (∀ (m : Mirroring) (a : Word), 0x2000 ≤ a.toNat → a.toNat ≤ 0x2FFF →
     (ntFold m a).toNat =
       (match m with
        | .vertical => a.toNat % 0x800
        | .horizontal => ((a.toNat - 0x2000) / 0x400 / 2) * 0x400 + a.toNat % 0x400) ∧
     (ntFold m a).toNat ≤ 0x7FF) ∧
  (∀ (m : Mirroring) (addr : Word),
     let c := ppuMirror m addr
     ppuSlot m addr = (if 0x2000 ≤ c.toNat ∧ c.toNat ≤ 0x2FFF then .nt (ntFold m c).toNat else .ppu c.toNat) ∧
     (∀ n, ppuSlot m addr = .nt n → n ≤ 0x7FF) ∧
     (∀ n, ppuSlot m addr = .ppu n → n ≤ 0x1FFF ∨ (0x3F00 ≤ n ∧ n ≤ 0x3F1F)))

/-- A read no hook answers returns the memory byte and changes the read log only; a write no hook claims stores the byte, and changes
no other byte and nothing else but the write log. Both hold for every physical address without a hook, the program area and the
unhooked I/O addresses included (R66, R73). -/
def Obligations.DefaultStore : Prop :=
  ∀ (a : Word) (v : Byte) (s : State),
    let p := cpuMirror a
    (p.toNat ∉ [0x2000, 0x2001, 0x2002, 0x2004, 0x2007, 0x4016] →
      cpuRead a s = (s.cpuByte p.toNat, { s with bus := { s.bus with lastRead := some p } })) ∧
    (¬(0x2000 ≤ p.toNat ∧ p.toNat ≤ 0x2007) → p.toNat ≠ 0x4014 → p.toNat ≠ 0x4016 →
      let t := cpuWrite a v s
      t.cpuByte p.toNat = v ∧ (∀ q, q ≠ p.toNat → t.cpuByte q = s.cpuByte q) ∧ SamePpuSide s t ∧
      t.cpu = s.cpu ∧ SameDevices s t ∧ t.bus = { s.bus with lastWrite := some p })

/-- A claimed write leaves every byte of CPU memory, the CPU registers, the driver, the diagnostics and the parameters (R69, R73). What a
bus read may change, whatever it addresses, and the reads that change nothing but the read log (R81, R82). -/
def Obligations.BusFrames : Prop :=
  (∀ (a : Word) (v : Byte) (s : State),
     let p := cpuMirror a
     ((0x2000 ≤ p.toNat ∧ p.toNat ≤ 0x2007) ∨ p.toNat = 0x4014 ∨ p.toNat = 0x4016) →
     let t := cpuWrite a v s
     (∀ q, t.cpuByte q = s.cpuByte q) ∧ t.cpu = s.cpu ∧ t.driver = s.driver ∧ t.diag = s.diag ∧ t.params = s.params) ∧
  (∀ (a : Word) (s : State),
     let t := (cpuRead a s).2
     ReadFrame s t ∧ t.cpu = s.cpu ∧
     (cpuMirror a ≠ 0x2002#16 → cpuMirror a ≠ 0x2007#16 → t.ppu = s.ppu) ∧
     (cpuMirror a ≠ 0x4016#16 → t.pad = s.pad ∧ t.host = s.host))

/-- The transaction log: a read records its physical address and leaves the write log, a write records its own and, but for the
reads of OAM-DMA, leaves the read log; PPU-space accesses record nothing (R74). -/
def Obligations.TransactionLog : Prop :=
  ∀ (a : Word) (v : Byte) (s : State),
    (cpuRead a s).2.bus = { s.bus with lastRead := some (cpuMirror a) } ∧
    (cpuWrite a v s).bus.lastWrite = some (cpuMirror a) ∧
    (cpuMirror a ≠ 0x4014#16 → (cpuWrite a v s).bus.lastRead = s.bus.lastRead) ∧
    (cpuMirror a = 0x4014#16 →
      (cpuWrite a v s).bus.lastRead = some (cpuMirror (BitVec.ofNat 16 (256 * v.toNat + 255)))) ∧
    (ppuWrite a v s).bus = s.bus

/-- A byte written to plain memory is what a later read of any mirror of that address returns; every other plain address reads as
before (R85). -/
def Obligations.ReadAfterWrite : Prop :=
  ∀ (a b : Word) (v : Byte) (s : State),
    writeHooked (cpuMirror a) = false → readHooked (cpuMirror b) = false →
    (cpuRead b (cpuWrite a v s)).1 = if cpuMirror b = cpuMirror a then v else (cpuRead b s).1

/-! ### The PPU's registers -/

/-- CTRL, MASK and OAMDATA reads, through any mirror, with no side effect (60_exceptions.md R330, R331, R333). CTRL, MASK, STATUS and
OAMADDR writes change the register named and nothing else; a STATUS write changes nothing; none raises an NMI request (R321 to R324,
R344 a). -/
def Obligations.PlainRegisters : Prop :=
  (∀ (a : Word) (s : State),
     let after := { s with bus := { s.bus with lastRead := some (cpuMirror a) } }
     (cpuMirror a = 0x2000#16 → cpuRead a s = (s.ppu.ctrl, after)) ∧
     (cpuMirror a = 0x2001#16 → cpuRead a s = (s.ppu.mask, after)) ∧
     (cpuMirror a = 0x2004#16 → cpuRead a s = (s.oamByte s.ppu.oamaddr.toNat, after))) ∧
  (∀ (a : Word) (v : Byte) (s : State),
     let log := { s.bus with lastWrite := some (cpuMirror a) }
     (cpuMirror a = 0x2000#16 → cpuWrite a v s = { s with ppu := { s.ppu with ctrl := v }, bus := log }) ∧
     (cpuMirror a = 0x2001#16 → cpuWrite a v s = { s with ppu := { s.ppu with mask := v }, bus := log }) ∧
     (cpuMirror a = 0x2002#16 → cpuWrite a v s = { s with bus := log }) ∧
     (cpuMirror a = 0x2003#16 → cpuWrite a v s = { s with ppu := { s.ppu with oamaddr := v }, bus := log }))

/-- STATUS read (R332), in every state whose STATUS bits 6:0 are 0, which every reachable state is (`StepKeepsRegisterForms`): it
returns 0x80 or 0x00 by the VBlank bit, clears the bit and the toggle, and leaves everything else, the pending NMI included. -/
def Obligations.StatusRead : Prop :=
  ∀ (a : Word) (s : State), cpuMirror a = 0x2002#16 → VBlankOnly s →
    let r := cpuRead a s
    r.1 = s.ppu.status ∧ r.1 = (if s.ppu.status.getLsbD 7 then 0x80#8 else 0x00#8) ∧
    r.2 = { s with
      ppu := { s.ppu with status := 0x00#8, w := false }
      bus := { s.bus with lastRead := some 0x2002#16 } }

/-- Reads of OAMADDR, SCROLL, ADDR and OAMDMA return the memory byte and have no side effect, and no bus write changes that byte
(R335). -/
def Obligations.WriteOnlyRegisterReads : Prop :=
  ∀ (a : Word) (s : State),
    cpuMirror a = 0x2003#16 ∨ cpuMirror a = 0x2005#16 ∨ cpuMirror a = 0x2006#16 ∨ cpuMirror a = 0x4014#16 →
    cpuRead a s = (s.cpuByte (cpuMirror a).toNat, { s with bus := { s.bus with lastRead := some (cpuMirror a) } }) ∧
    ∀ (b : Word) (v : Byte), (cpuWrite b v s).cpuByte (cpuMirror a).toNat = s.cpuByte (cpuMirror a).toNat

/-- OAMDATA write: the byte goes to `oam[oamaddr]`, no other byte of any memory changes, and `oamaddr` moves by one mod 256 (R325). -/
def Obligations.OamDataWrite : Prop :=
  ∀ (a : Word) (v : Byte) (s : State), cpuMirror a = 0x2004#16 →
    let t := cpuWrite a v s
    t.oamByte s.ppu.oamaddr.toNat = v ∧ (∀ i, i ≠ s.ppu.oamaddr.toNat → t.oamByte i = s.oamByte i) ∧
    (∀ p, t.cpuByte p = s.cpuByte p) ∧ (∀ c, t.ppuByte c = s.ppuByte c) ∧ (∀ n, t.ntByte n = s.ntByte n) ∧
    t.ppu = { s.ppu with oamaddr := t.ppu.oamaddr } ∧ t.ppu.oamaddr.toNat = (s.ppu.oamaddr.toNat + 1) % 256 ∧
    t = { s with mem := t.mem, ppu := t.ppu, bus := { s.bus with lastWrite := some 0x2004#16 } }

/-- SCROLL write: the first or second byte by the toggle, which flips; nothing else (R326). ADDR write: the high byte first, all its 8
bits, then the low byte; the toggle flips (R327). After a STATUS read two ADDR writes leave the 16-bit concatenation of their bytes. -/
def Obligations.ScrollAndAddrWrites : Prop :=
  (∀ (a : Word) (v : Byte) (s : State), cpuMirror a = 0x2005#16 →
     cpuWrite a v s = { s with
       ppu := { s.ppu with
         scrollX := if s.ppu.w then s.ppu.scrollX else v
         scrollY := if s.ppu.w then v else s.ppu.scrollY
         w := !s.ppu.w }
       bus := { s.bus with lastWrite := some 0x2005#16 } }) ∧
  (∀ (a : Word) (s : State), cpuMirror a = 0x2006#16 →
     (∀ v : Byte,
       let t := cpuWrite a v s
       t = { s with
         ppu := { s.ppu with intlAddr := t.ppu.intlAddr, w := !s.ppu.w }
         bus := { s.bus with lastWrite := some 0x2006#16 } } ∧
       t.ppu.intlAddr.toNat = (if s.ppu.w then s.ppu.intlAddr.toNat / 256 * 256 + v.toNat
                               else v.toNat * 256 + s.ppu.intlAddr.toNat % 256)) ∧
     ∀ hi lo : Byte,
       let t := cpuWrite a lo (cpuWrite a hi (cpuRead 0x2002#16 s).2)
       t.ppu.intlAddr.toNat = hi.toNat * 256 + lo.toNat ∧ t.ppu.w = false)

/-- DATA write: the byte goes to the slot of `intlAddr`, no other byte changes, and `intlAddr` moves by 1 or 32 mod 0x10000 (R328,
R336, 20_memory.md R77). -/
def Obligations.DataWrite : Prop :=
  ∀ (a : Word) (v : Byte) (s : State), cpuMirror a = 0x2007#16 →
    let t := cpuWrite a v s
    let slot := ppuSlot s.params.mirroring s.ppu.intlAddr
    (∀ c, t.ppuByte c = if slot = .ppu c then v else s.ppuByte c) ∧
    (∀ n, t.ntByte n = if slot = .nt n then v else s.ntByte n) ∧
    (∀ p, t.cpuByte p = s.cpuByte p) ∧ (∀ i, t.oamByte i = s.oamByte i) ∧
    t.ppu = { s.ppu with intlAddr := t.ppu.intlAddr } ∧
    t.ppu.intlAddr.toNat = (s.ppu.intlAddr.toNat + (if s.ppu.ctrl.getLsbD 2 then 32 else 1)) % 0x10000 ∧
    t = { s with mem := t.mem, ppu := t.ppu, bus := { s.bus with lastWrite := some 0x2007#16 } }

/-- DATA read: a palette address answers at once and refills the buffer from 0x1000 below; any other answers the buffer and refills it
from the address; `intlAddr` moves by 1 or 32 mod 0x10000 and no memory byte changes (R334, R336). -/
def Obligations.DataRead : Prop :=
  ∀ (a : Word) (s : State), cpuMirror a = 0x2007#16 →
    let r := cpuRead a s
    let c := ppuMirror s.params.mirroring s.ppu.intlAddr
    r.2 = { s with
      ppu := { s.ppu with buffer := r.2.ppu.buffer, intlAddr := r.2.ppu.intlAddr }
      bus := { s.bus with lastRead := some 0x2007#16 } } ∧
    r.2.ppu.intlAddr.toNat = (s.ppu.intlAddr.toNat + (if s.ppu.ctrl.getLsbD 2 then 32 else 1)) % 0x10000 ∧
    (if 0x3F00 ≤ c.toNat ∧ c.toNat ≤ 0x3FFF then
      r.1 = ppuRead c s ∧ r.2.ppu.buffer = ppuRead (BitVec.ofNat 16 (c.toNat - 0x1000)) s
     else r.1 = s.ppu.buffer ∧ r.2.ppu.buffer = ppuRead s.ppu.intlAddr s)

/-! ### OAM-DMA and the controller -/

/-- OAM-DMA is 256 full bus reads in ascending order, each byte stored at its index before the next read (60_exceptions.md R350, R352).
From any page it leaves `oamaddr`, every CPU register and the cycle count, and no PPU tick runs. From a page of plain memory it copies
byte for byte into OAM 0 to 255 and changes no other byte and no PPU register (R350, R351). -/
def Obligations.OamDma : Prop :=
  (∀ (v : Byte) (s : State),
     cpuWrite 0x4014#16 v s =
       (List.range 256).foldl
         (fun t i =>
           let r := cpuRead (BitVec.ofNat 16 (256 * v.toNat + i)) t
           putOamByte i r.1 r.2)
         { s with bus := { s.bus with lastWrite := some 0x4014#16 } }) ∧
  (∀ (v : Byte) (s : State),
     let t := cpuWrite 0x4014#16 v s
     t.ppu.oamaddr = s.ppu.oamaddr ∧ t.cpu = s.cpu ∧ t.ppu.cycle = s.ppu.cycle ∧
     t.bus.lastRead = some (cpuMirror (BitVec.ofNat 16 (256 * v.toNat + 255)))) ∧
  (∀ (v : Byte) (s : State), v.toNat < 0x20 ∨ 0x40 < v.toNat →
     let t := cpuWrite 0x4014#16 v s
     (∀ i, i < 256 → t.oamByte i = s.cpuByte (cpuMirror (BitVec.ofNat 16 (256 * v.toNat + i))).toNat) ∧
     (∀ i, 256 ≤ i → t.oamByte i = s.oamByte i) ∧
     (∀ p, t.cpuByte p = s.cpuByte p) ∧ (∀ c, t.ppuByte c = s.ppuByte c) ∧ (∀ n, t.ntByte n = s.ntByte n) ∧
     t = { s with
       mem := t.mem
       bus := { lastRead := some (cpuMirror (BitVec.ofNat 16 (256 * v.toNat + 255))), lastWrite := some 0x4014#16 } })

/-- Controller write: a 1 in bit 0 latches the buttons and rewinds, the falling strobe latches once more, and the strobe takes bit 0
(R371). Controller read: while the strobe is 1 it latches, rewinds and shows bit 0; otherwise it shows the bit under the cursor, 1
after the eighth, and moves the cursor (R372). The buttons are the host's mask where it is known, else the next free draw (log entry
4). -/
def Obligations.ControllerPort : Prop :=
  (∀ (v : Byte) (s : State),
     let t := cpuWrite 0x4016#16 v s
     let held := s.host.buttons.getD (Config.hostButtons s.host.draws)
     let sampled := v.getLsbD 0 || s.pad.strobe
     t.pad = { latch := if sampled then held else s.pad.latch
               cursor := if v.getLsbD 0 then 0 else s.pad.cursor
               strobe := v.getLsbD 0 } ∧
     t = { s with
       pad := t.pad
       host := { s.host with draws := if sampled && s.host.buttons.isNone then s.host.draws + 1 else s.host.draws }
       bus := { s.bus with lastWrite := some 0x4016#16 } }) ∧
  (∀ s : State,
     let r := cpuRead 0x4016#16 s
     let held := s.host.buttons.getD (Config.hostButtons s.host.draws)
     let shown := if s.pad.strobe then held.getLsbD 0 else if s.pad.cursor < 8 then s.pad.latch.getLsbD s.pad.cursor else true
     r.1 = (if shown then 0x41#8 else 0x40#8) ∧
     r.2.pad = { latch := if s.pad.strobe then held else s.pad.latch
                 cursor := if s.pad.strobe then 0 else if s.pad.cursor < 8 then s.pad.cursor + 1 else s.pad.cursor
                 strobe := s.pad.strobe } ∧
     r.2 = { s with
       pad := r.2.pad
       host := { s.host with draws := if s.pad.strobe && s.host.buttons.isNone then s.host.draws + 1 else s.host.draws }
       bus := { s.bus with lastRead := some 0x4016#16 } })

/-- Read out one after the other with the strobe low from a rewound cursor, the latched mask comes out least significant bit first,
then ones (R372). -/
def Obligations.ControllerShiftsOut : Prop :=
  ∀ (n k : Nat) (s : State), s.pad.strobe = false → s.pad.cursor = 0 → k < n →
    (readPadMany n s)[k]? = some (if k < 8 && !(s.pad.latch.getLsbD k) then 0x40#8 else 0x41#8)

/-! ### Operand forms -/

/-- The operand forms without a pointer: immediate, page zero and absolute, plain and indexed, with their wraps and their page-cross
marks; none makes an access of its own (30_encoding.md R112 to R118, R123). The two indirect forms through page zero: both pointer
bytes lie in page zero, the second wrapping from 0xFF to 0x00; reading them changes the read log only (R120, R121). A memory operand of
any mode is one bus read of its effective address after its pointer reads, with that address's page-cross mark (R124 class R). -/
def Obligations.EffectiveAddresses : Prop :=
  (∀ (s : State) (d : Byte) (w : Word),
     readOperand (.imm d) s = ((d, false), s) ∧
     (∀ m ∈ [Mode.zp d, .zpX d, .zpY d, .abs w, .absX w, .absY w], (resolve m s).2 = s) ∧
     (∀ m ∈ [Mode.zp d, .zpX d, .zpY d, .abs w], (resolve m s).1.crossed = false) ∧
     (resolve (.zp d) s).1.addr.toNat = d.toNat ∧
     (resolve (.zpX d) s).1.addr.toNat = (d.toNat + s.cpu.x.toNat) % 256 ∧
     (resolve (.zpY d) s).1.addr.toNat = (d.toNat + s.cpu.y.toNat) % 256 ∧
     (resolve (.abs w) s).1.addr = w ∧
     (resolve (.absX w) s).1.addr.toNat = (w.toNat + s.cpu.x.toNat) % 0x10000 ∧
     (resolve (.absY w) s).1.addr.toNat = (w.toNat + s.cpu.y.toNat) % 0x10000 ∧
     ((resolve (.absX w) s).1.crossed = true ↔ w.toNat / 256 ≠ (w.toNat + s.cpu.x.toNat) % 0x10000 / 256) ∧
     ((resolve (.absY w) s).1.crossed = true ↔ w.toNat / 256 ≠ (w.toNat + s.cpu.y.toNat) % 0x10000 / 256)) ∧
  (∀ (s : State) (d : Byte),
     let p := (d.toNat + s.cpu.x.toNat) % 256
     let ptr := fun q => (s.cpuByte ((q + 1) % 256)).toNat * 256 + (s.cpuByte q).toNat
     let log := fun q => { s with bus := { s.bus with lastRead := some (BitVec.ofNat 16 ((q + 1) % 256)) } }
     (resolve (.indX d) s).1.addr.toNat = ptr p ∧ (resolve (.indX d) s).1.crossed = false ∧ (resolve (.indX d) s).2 = log p ∧
     (resolve (.indY d) s).1.addr.toNat = (ptr d.toNat + s.cpu.y.toNat) % 0x10000 ∧
     ((resolve (.indY d) s).1.crossed = true ↔ ptr d.toNat / 256 ≠ (ptr d.toNat + s.cpu.y.toNat) % 0x10000 / 256) ∧
     (resolve (.indY d) s).2 = log d.toNat) ∧
  (∀ (m : Mode) (s : State),
     let ea := (resolve m s).1
     let r := cpuRead ea.addr (resolve m s).2
     readOperand (.mem m) s = ((r.1, ea.crossed), r.2))

/-! ### Loads, stores and transfers -/

/-- LDA, LDX and LDY, every form (41_load_store_transfer.md R140 to R142). -/
def Obligations.LoadInstructions : Prop :=
  (∀ (d : Byte) (w : Word),
     let post := fun (m : Byte) (c c' : Cpu) => OnlyA m c c' ∧ OnlyNZ m c.p c'.p
     ReadInstr (.ldaImm d) 0xA9#8 (.imm d) 2 2 false post ∧ ReadInstr (.ldaZp d) 0xA5#8 (.mem (.zp d)) 2 3 false post ∧
     ReadInstr (.ldaZpX d) 0xB5#8 (.mem (.zpX d)) 2 4 false post ∧ ReadInstr (.ldaAbs w) 0xAD#8 (.mem (.abs w)) 3 4 false post ∧
     ReadInstr (.ldaAbsX w) 0xBD#8 (.mem (.absX w)) 3 4 true post ∧ ReadInstr (.ldaAbsY w) 0xB9#8 (.mem (.absY w)) 3 4 true post ∧
     ReadInstr (.ldaIndX d) 0xA1#8 (.mem (.indX d)) 2 6 false post ∧ ReadInstr (.ldaIndY d) 0xB1#8 (.mem (.indY d)) 2 5 true post) ∧
  (∀ (d : Byte) (w : Word),
     let px := fun (m : Byte) (c c' : Cpu) => OnlyX m c c' ∧ OnlyNZ m c.p c'.p
     let py := fun (m : Byte) (c c' : Cpu) => OnlyY m c c' ∧ OnlyNZ m c.p c'.p
     ReadInstr (.ldxImm d) 0xA2#8 (.imm d) 2 2 false px ∧ ReadInstr (.ldxZp d) 0xA6#8 (.mem (.zp d)) 2 3 false px ∧
     ReadInstr (.ldxZpY d) 0xB6#8 (.mem (.zpY d)) 2 4 false px ∧ ReadInstr (.ldxAbs w) 0xAE#8 (.mem (.abs w)) 3 4 false px ∧
     ReadInstr (.ldxAbsY w) 0xBE#8 (.mem (.absY w)) 3 4 true px ∧
     ReadInstr (.ldyImm d) 0xA0#8 (.imm d) 2 2 false py ∧ ReadInstr (.ldyZp d) 0xA4#8 (.mem (.zp d)) 2 3 false py ∧
     ReadInstr (.ldyZpX d) 0xB4#8 (.mem (.zpX d)) 2 4 false py ∧ ReadInstr (.ldyAbs w) 0xAC#8 (.mem (.abs w)) 3 4 false py ∧
     ReadInstr (.ldyAbsX w) 0xBC#8 (.mem (.absX w)) 3 4 true py)

/-- STA, STX and STY, every form: one write, no flag, no page-cross cycle (R143 to R145). -/
def Obligations.StoresWriteOneByte : Prop :=
  ∀ (d : Byte) (w : Word),
    StoreInstr (.staZp d) 0x85#8 (·.a) (.zp d) 2 3 ∧ StoreInstr (.staZpX d) 0x95#8 (·.a) (.zpX d) 2 4 ∧
    StoreInstr (.staAbs w) 0x8D#8 (·.a) (.abs w) 3 4 ∧ StoreInstr (.staAbsX w) 0x9D#8 (·.a) (.absX w) 3 5 ∧
    StoreInstr (.staAbsY w) 0x99#8 (·.a) (.absY w) 3 5 ∧ StoreInstr (.staIndX d) 0x81#8 (·.a) (.indX d) 2 6 ∧
    StoreInstr (.staIndY d) 0x91#8 (·.a) (.indY d) 2 6 ∧
    StoreInstr (.stxZp d) 0x86#8 (·.x) (.zp d) 2 3 ∧ StoreInstr (.stxZpY d) 0x96#8 (·.x) (.zpY d) 2 4 ∧
    StoreInstr (.stxAbs w) 0x8E#8 (·.x) (.abs w) 3 4 ∧
    StoreInstr (.styZp d) 0x84#8 (·.y) (.zp d) 2 3 ∧ StoreInstr (.styZpX d) 0x94#8 (·.y) (.zpX d) 2 4 ∧
    StoreInstr (.styAbs w) 0x8C#8 (·.y) (.abs w) 3 4

/-- The six transfers (R146 to R151). -/
def Obligations.TransfersCopyARegister : Prop :=
  RegisterInstr .tax 0xAA#8 1 2 (fun c c' => OnlyX c.a c c' ∧ OnlyNZ c.a c.p c'.p) ∧
  RegisterInstr .tay 0xA8#8 1 2 (fun c c' => OnlyY c.a c c' ∧ OnlyNZ c.a c.p c'.p) ∧
  RegisterInstr .txa 0x8A#8 1 2 (fun c c' => OnlyA c.x c c' ∧ OnlyNZ c.x c.p c'.p) ∧
  RegisterInstr .tya 0x98#8 1 2 (fun c c' => OnlyA c.y c c' ∧ OnlyNZ c.y c.p c'.p) ∧
  RegisterInstr .tsx 0xBA#8 1 2 (fun c c' => OnlyX c.sp c c' ∧ OnlyNZ c.sp c.p c'.p) ∧
  RegisterInstr .txs 0x9A#8 1 2 (fun c c' => c' = { c with sp := c.x, pc := c'.pc, cycles := c'.cycles })

/-! ### Arithmetic and logic -/

/-- ADC, every form, by the adder of R160 (42_arithmetic_logic.md R160, R161). SBC, every form, and its equivalence with the adder on the
complement (R162). -/
def Obligations.AdcAndSbc : Prop :=
  (∀ (d : Byte) (w : Word),
     let post := fun (m : Byte) (c c' : Cpu) =>
       let t := c.a.toNat + m.toNat + (c.p.getLsbD 0).toNat
       let r := BitVec.ofNat 8 t
       OnlyA r c c' ∧
       StatusIs c.p c'.p (r.getLsbD 7) (decide ((c.a ^^^ r) &&& (m ^^^ r) &&& 0x80#8 ≠ 0#8)) (flagD c.p) (flagI c.p)
         (decide (r = 0#8)) (decide (t > 255))
     ReadInstr (.adcImm d) 0x69#8 (.imm d) 2 2 false post ∧ ReadInstr (.adcZp d) 0x65#8 (.mem (.zp d)) 2 3 false post ∧
     ReadInstr (.adcZpX d) 0x75#8 (.mem (.zpX d)) 2 4 false post ∧ ReadInstr (.adcAbs w) 0x6D#8 (.mem (.abs w)) 3 4 false post ∧
     ReadInstr (.adcAbsX w) 0x7D#8 (.mem (.absX w)) 3 4 true post ∧ ReadInstr (.adcAbsY w) 0x79#8 (.mem (.absY w)) 3 4 true post ∧
     ReadInstr (.adcIndX d) 0x61#8 (.mem (.indX d)) 2 6 false post ∧ ReadInstr (.adcIndY d) 0x71#8 (.mem (.indY d)) 2 5 true post) ∧
  ((∀ (d : Byte) (w : Word),
     let post := fun (m : Byte) (c c' : Cpu) =>
       let t : Int := (c.a.toNat : Int) - m.toNat - (1 - (c.p.getLsbD 0).toNat)
       let r := BitVec.ofInt 8 t
       OnlyA r c c' ∧
       StatusIs c.p c'.p (r.getLsbD 7) (decide ((c.a ^^^ r) &&& (~~~m ^^^ r) &&& 0x80#8 ≠ 0#8)) (flagD c.p) (flagI c.p)
         (decide (r = 0#8)) (decide (¬ t < 0))
     ReadInstr (.sbcImm d) 0xE9#8 (.imm d) 2 2 false post ∧ ReadInstr (.sbcZp d) 0xE5#8 (.mem (.zp d)) 2 3 false post ∧
     ReadInstr (.sbcZpX d) 0xF5#8 (.mem (.zpX d)) 2 4 false post ∧ ReadInstr (.sbcAbs w) 0xED#8 (.mem (.abs w)) 3 4 false post ∧
     ReadInstr (.sbcAbsX w) 0xFD#8 (.mem (.absX w)) 3 4 true post ∧ ReadInstr (.sbcAbsY w) 0xF9#8 (.mem (.absY w)) 3 4 true post ∧
     ReadInstr (.sbcIndX d) 0xE1#8 (.mem (.indX d)) 2 6 false post ∧ ReadInstr (.sbcIndY d) 0xF1#8 (.mem (.indY d)) 2 5 true post) ∧
   ∀ (a m p : Byte) (cin : Bool), subCore a m cin p = addCore a (~~~m) cin p)

/-- The overflow flag of ADC and SBC is set exactly when the signed result leaves -128 to 127, the result being the sum or difference
mod 256 (R160, R162, R177). -/
def Obligations.OverflowIsSignedOverflow : Prop :=
  ∀ (a m p : Byte) (cin : Bool),
    let sum := a.toInt + m.toInt + cin.toNat
    let diff := a.toInt - m.toInt - (1 - cin.toNat)
    (flagV (addCore a m cin p).2 = true ↔ sum < -128 ∨ 127 < sum) ∧
    (flagV (subCore a m cin p).2 = true ↔ diff < -128 ∨ 127 < diff) ∧
    (addCore a m cin p).1 = BitVec.ofInt 8 sum ∧ (subCore a m cin p).1 = BitVec.ofInt 8 diff

/-- AND, ORA and EOR, every form (R163 to R165). -/
def Obligations.LogicInstructions : Prop :=
  ∀ (d : Byte) (w : Word),
    let post := fun (f : Byte → Byte → Byte) (m : Byte) (c c' : Cpu) => OnlyA (f c.a m) c c' ∧ OnlyNZ (f c.a m) c.p c'.p
    let and := post (· &&& ·)
    let or := post (· ||| ·)
    let xor := post (· ^^^ ·)
    (ReadInstr (.andImm d) 0x29#8 (.imm d) 2 2 false and ∧ ReadInstr (.andZp d) 0x25#8 (.mem (.zp d)) 2 3 false and ∧
     ReadInstr (.andZpX d) 0x35#8 (.mem (.zpX d)) 2 4 false and ∧ ReadInstr (.andAbs w) 0x2D#8 (.mem (.abs w)) 3 4 false and ∧
     ReadInstr (.andAbsX w) 0x3D#8 (.mem (.absX w)) 3 4 true and ∧ ReadInstr (.andAbsY w) 0x39#8 (.mem (.absY w)) 3 4 true and ∧
     ReadInstr (.andIndX d) 0x21#8 (.mem (.indX d)) 2 6 false and ∧ ReadInstr (.andIndY d) 0x31#8 (.mem (.indY d)) 2 5 true and) ∧
    (ReadInstr (.oraImm d) 0x09#8 (.imm d) 2 2 false or ∧ ReadInstr (.oraZp d) 0x05#8 (.mem (.zp d)) 2 3 false or ∧
     ReadInstr (.oraZpX d) 0x15#8 (.mem (.zpX d)) 2 4 false or ∧ ReadInstr (.oraAbs w) 0x0D#8 (.mem (.abs w)) 3 4 false or ∧
     ReadInstr (.oraAbsX w) 0x1D#8 (.mem (.absX w)) 3 4 true or ∧ ReadInstr (.oraAbsY w) 0x19#8 (.mem (.absY w)) 3 4 true or ∧
     ReadInstr (.oraIndX d) 0x01#8 (.mem (.indX d)) 2 6 false or ∧ ReadInstr (.oraIndY d) 0x11#8 (.mem (.indY d)) 2 5 true or) ∧
    (ReadInstr (.eorImm d) 0x49#8 (.imm d) 2 2 false xor ∧ ReadInstr (.eorZp d) 0x45#8 (.mem (.zp d)) 2 3 false xor ∧
     ReadInstr (.eorZpX d) 0x55#8 (.mem (.zpX d)) 2 4 false xor ∧ ReadInstr (.eorAbs w) 0x4D#8 (.mem (.abs w)) 3 4 false xor ∧
     ReadInstr (.eorAbsX w) 0x5D#8 (.mem (.absX w)) 3 4 true xor ∧ ReadInstr (.eorAbsY w) 0x59#8 (.mem (.absY w)) 3 4 true xor ∧
     ReadInstr (.eorIndX d) 0x41#8 (.mem (.indX d)) 2 6 false xor ∧ ReadInstr (.eorIndY d) 0x51#8 (.mem (.indY d)) 2 5 true xor)

/-- BIT: flags only, N and V from the operand, Z from `A & M` (R166). CMP, CPX and CPY, every form: flags only, C for "no borrow", V
kept (R167 to R170). -/
def Obligations.BitAndCompares : Prop :=
  (∀ (d : Byte) (w : Word),
     let post := fun (m : Byte) (c c' : Cpu) =>
       OnlyP c c' ∧ StatusIs c.p c'.p (m.getLsbD 7) (m.getLsbD 6) (flagD c.p) (flagI c.p) (decide (c.a &&& m = 0#8)) (flagC c.p)
     ReadInstr (.bitZp d) 0x24#8 (.mem (.zp d)) 2 3 false post ∧ ReadInstr (.bitAbs w) 0x2C#8 (.mem (.abs w)) 3 4 false post) ∧
  (∀ (d : Byte) (w : Word),
     let post := fun (reg : Cpu → Byte) (m : Byte) (c c' : Cpu) =>
       let diff : Int := ((reg c).toNat : Int) - m.toNat
       OnlyP c c' ∧ OnlyNZC (BitVec.ofInt 8 diff) (decide (¬ diff < 0)) c.p c'.p
     let a := post (·.a)
     let x := post (·.x)
     let y := post (·.y)
     (ReadInstr (.cmpImm d) 0xC9#8 (.imm d) 2 2 false a ∧ ReadInstr (.cmpZp d) 0xC5#8 (.mem (.zp d)) 2 3 false a ∧
      ReadInstr (.cmpZpX d) 0xD5#8 (.mem (.zpX d)) 2 4 false a ∧ ReadInstr (.cmpAbs w) 0xCD#8 (.mem (.abs w)) 3 4 false a ∧
      ReadInstr (.cmpAbsX w) 0xDD#8 (.mem (.absX w)) 3 4 true a ∧ ReadInstr (.cmpAbsY w) 0xD9#8 (.mem (.absY w)) 3 4 true a ∧
      ReadInstr (.cmpIndX d) 0xC1#8 (.mem (.indX d)) 2 6 false a ∧ ReadInstr (.cmpIndY d) 0xD1#8 (.mem (.indY d)) 2 5 true a) ∧
     (ReadInstr (.cpxImm d) 0xE0#8 (.imm d) 2 2 false x ∧ ReadInstr (.cpxZp d) 0xE4#8 (.mem (.zp d)) 2 3 false x ∧
      ReadInstr (.cpxAbs w) 0xEC#8 (.mem (.abs w)) 3 4 false x) ∧
     (ReadInstr (.cpyImm d) 0xC0#8 (.imm d) 2 2 false y ∧ ReadInstr (.cpyZp d) 0xC4#8 (.mem (.zp d)) 2 3 false y ∧
      ReadInstr (.cpyAbs w) 0xCC#8 (.mem (.abs w)) 3 4 false y))

/-- INC and DEC on memory, every form: one read, one write of the operand plus or minus 1 mod 256, N and Z of it (R171, R172). INX, INY,
DEX and DEY (R173 to R176). -/
def Obligations.IncrementsAndDecrements : Prop :=
  (∀ (d : Byte) (w : Word),
     let up := fun (m _ : Byte) => BitVec.ofNat 8 (m.toNat + 1)
     let down := fun (m _ : Byte) => BitVec.ofInt 8 ((m.toNat : Int) - 1)
     let upP := fun (m p p' : Byte) => OnlyNZ (up m p) p p'
     let downP := fun (m p p' : Byte) => OnlyNZ (down m p) p p'
     ModifyInstr (.incZp d) 0xE6#8 (.zp d) 2 5 up upP ∧ ModifyInstr (.incZpX d) 0xF6#8 (.zpX d) 2 6 up upP ∧
     ModifyInstr (.incAbs w) 0xEE#8 (.abs w) 3 6 up upP ∧ ModifyInstr (.incAbsX w) 0xFE#8 (.absX w) 3 7 up upP ∧
     ModifyInstr (.decZp d) 0xC6#8 (.zp d) 2 5 down downP ∧ ModifyInstr (.decZpX d) 0xD6#8 (.zpX d) 2 6 down downP ∧
     ModifyInstr (.decAbs w) 0xCE#8 (.abs w) 3 6 down downP ∧ ModifyInstr (.decAbsX w) 0xDE#8 (.absX w) 3 7 down downP) ∧
  (let up := fun (v : Byte) => BitVec.ofNat 8 (v.toNat + 1)
   let down := fun (v : Byte) => BitVec.ofInt 8 ((v.toNat : Int) - 1)
   RegisterInstr .inx 0xE8#8 1 2 (fun c c' => OnlyX (up c.x) c c' ∧ OnlyNZ (up c.x) c.p c'.p) ∧
   RegisterInstr .iny 0xC8#8 1 2 (fun c c' => OnlyY (up c.y) c c' ∧ OnlyNZ (up c.y) c.p c'.p) ∧
   RegisterInstr .dex 0xCA#8 1 2 (fun c c' => OnlyX (down c.x) c c' ∧ OnlyNZ (down c.x) c.p c'.p) ∧
   RegisterInstr .dey 0x88#8 1 2 (fun c c' => OnlyY (down c.y) c c' ∧ OnlyNZ (down c.y) c.p c'.p))

/-! ### Shifts and rotates -/

/-- ASL, LSR, ROL and ROR in every mode: the byte shifted or rotated by one place, C the bit shifted away, N and Z of the result; in
ACC mode no memory access, else one read and one write (43_shift_rotate.md R190 to R194). -/
def Obligations.ShiftsAndRotates : Prop :=
  ∀ (d : Byte) (w : Word),
    let asl := fun (m _ : Byte) => BitVec.ofNat 8 (m.toNat * 2)
    let lsr := fun (m _ : Byte) => BitVec.ofNat 8 (m.toNat / 2)
    let rol := fun (m p : Byte) => BitVec.ofNat 8 (m.toNat * 2 + (p.getLsbD 0).toNat)
    let ror := fun (m p : Byte) => BitVec.ofNat 8 (m.toNat / 2 + 128 * (p.getLsbD 0).toNat)
    let flags := fun (f : Byte → Byte → Byte) (out : Nat) (m p p' : Byte) => OnlyNZC (f m p) (m.getLsbD out) p p'
    let acc := fun (f : Byte → Byte → Byte) (out : Nat) (c c' : Cpu) => OnlyA (f c.a c.p) c c' ∧ flags f out c.a c.p c'.p
    (RegisterInstr .aslAcc 0x0A#8 1 2 (acc asl 7) ∧ RegisterInstr .lsrAcc 0x4A#8 1 2 (acc lsr 0) ∧
     RegisterInstr .rolAcc 0x2A#8 1 2 (acc rol 7) ∧ RegisterInstr .rorAcc 0x6A#8 1 2 (acc ror 0)) ∧
    (ModifyInstr (.aslZp d) 0x06#8 (.zp d) 2 5 asl (flags asl 7) ∧ ModifyInstr (.aslZpX d) 0x16#8 (.zpX d) 2 6 asl (flags asl 7) ∧
     ModifyInstr (.aslAbs w) 0x0E#8 (.abs w) 3 6 asl (flags asl 7) ∧ ModifyInstr (.aslAbsX w) 0x1E#8 (.absX w) 3 7 asl (flags asl 7)) ∧
    (ModifyInstr (.lsrZp d) 0x46#8 (.zp d) 2 5 lsr (flags lsr 0) ∧ ModifyInstr (.lsrZpX d) 0x56#8 (.zpX d) 2 6 lsr (flags lsr 0) ∧
     ModifyInstr (.lsrAbs w) 0x4E#8 (.abs w) 3 6 lsr (flags lsr 0) ∧ ModifyInstr (.lsrAbsX w) 0x5E#8 (.absX w) 3 7 lsr (flags lsr 0)) ∧
    (ModifyInstr (.rolZp d) 0x26#8 (.zp d) 2 5 rol (flags rol 7) ∧ ModifyInstr (.rolZpX d) 0x36#8 (.zpX d) 2 6 rol (flags rol 7) ∧
     ModifyInstr (.rolAbs w) 0x2E#8 (.abs w) 3 6 rol (flags rol 7) ∧ ModifyInstr (.rolAbsX w) 0x3E#8 (.absX w) 3 7 rol (flags rol 7)) ∧
    (ModifyInstr (.rorZp d) 0x66#8 (.zp d) 2 5 ror (flags ror 0) ∧ ModifyInstr (.rorZpX d) 0x76#8 (.zpX d) 2 6 ror (flags ror 0) ∧
     ModifyInstr (.rorAbs w) 0x6E#8 (.abs w) 3 6 ror (flags ror 0) ∧ ModifyInstr (.rorAbsX w) 0x7E#8 (.absX w) 3 7 ror (flags ror 0))

/-! ### Control flow -/

/-- The eight branches: where each goes, that it writes PC and cycles only, and its extra cycles under NMOS; the target in numbers
(44_control_flow.md R200 to R208, 30_encoding.md R122). -/
def Obligations.BranchesFollowTheirFlag : Prop :=
  (∀ o : Byte,
    BranchInstr (.bcc o) 0x90#8 o (fun p => !p.getLsbD 0) ∧ BranchInstr (.bcs o) 0xB0#8 o (fun p => p.getLsbD 0) ∧
    BranchInstr (.bne o) 0xD0#8 o (fun p => !p.getLsbD 1) ∧ BranchInstr (.beq o) 0xF0#8 o (fun p => p.getLsbD 1) ∧
    BranchInstr (.bvc o) 0x50#8 o (fun p => !p.getLsbD 6) ∧ BranchInstr (.bvs o) 0x70#8 o (fun p => p.getLsbD 6) ∧
    BranchInstr (.bpl o) 0x10#8 o (fun p => !p.getLsbD 7) ∧ BranchInstr (.bmi o) 0x30#8 o (fun p => p.getLsbD 7)) ∧
  ∀ (npc : Word) (o : Byte),
    ((npc + o.signExtend 16).toNat : Int) = ((npc.toNat : Int) + o.toInt) % 0x10000 ∧
    (pageCrossed npc (npc + o.signExtend 16) = true ↔ npc.toNat / 256 ≠ (npc + o.signExtend 16).toNat / 256)

/-- JMP absolute and JMP indirect: PC and cycles only, and for the indirect form its two pointer reads, the second in the pointer's own
page (R209, R210, 30_encoding.md R119). -/
def Obligations.JumpsSetPc : Prop :=
  ∀ (w : Word) (s : State),
    encode (.jmpAbs w) = [0x4C#8, lowByte w, highByte w] ∧ encode (.jmpInd w) = [0x6C#8, lowByte w, highByte w] ∧
    exec (.jmpAbs w) s = .next { s with cpu := { s.cpu with pc := w, cycles := s.cpu.cycles + 3 } } ∧
    (let lo := cpuRead w s
     let hi := cpuRead (BitVec.ofNat 16 (w.toNat / 256 * 256 + (w.toNat + 1) % 256)) lo.2
     exec (.jmpInd w) s =
       .next { hi.2 with cpu := { s.cpu with pc := BitVec.ofNat 16 (hi.1.toNat * 256 + lo.1.toNat), cycles := s.cpu.cycles + 5 } } ∧
     ReadFrame s hi.2)

/-- JSR: the address of its last byte pushed high byte first, PC at the target, and nothing else (R211). RTS: PC is the pulled word, low
byte first, plus 1 mod 0x10000; SP is two higher; nothing else but the read log (R212). -/
def Obligations.SubroutineCallAndReturn : Prop :=
  (∀ (w : Word) (s : State), ∃ t,
     encode (.jsr w) = [0x20#8, lowByte w, highByte w] ∧ exec (.jsr w) s = .next t ∧
     (t.cpuByte (stackIndex s 0)).toNat = (s.cpu.pc.toNat + 2) % 0x10000 / 256 ∧
     (t.cpuByte (stackIndex s 1)).toNat = (s.cpu.pc.toNat + 2) % 256 ∧
     (∀ q, q ≠ stackIndex s 0 → q ≠ stackIndex s 1 → t.cpuByte q = s.cpuByte q) ∧
     t.cpu = { s.cpu with sp := s.cpu.sp - 2#8, pc := w, cycles := s.cpu.cycles + 6 } ∧ SamePpuSide s t ∧ SameDevices s t ∧
     t.bus = { s.bus with lastWrite := some (BitVec.ofNat 16 (stackIndex s 1)) }) ∧
  (∀ s : State, ∃ pc : Word,
     encode .rts = [0x60#8] ∧
     exec .rts s = .next { s with
       cpu := { s.cpu with sp := s.cpu.sp + 2#8, pc := pc, cycles := s.cpu.cycles + 6 }
       bus := { s.bus with lastRead := some (BitVec.ofNat 16 (stackIndexUp s 2)) } } ∧
     pc.toNat = ((s.cpuByte (stackIndexUp s 2)).toNat * 256 + (s.cpuByte (stackIndexUp s 1)).toNat + 1) % 0x10000)

/-- A subroutine that returns at once comes back behind the JSR with SP where it was (R211, R212). An RTI right after an interrupt entry
gives back PC, P and SP, in every state whose P holds bits 5 and 4 as R26 says (R307, R308). -/
def Obligations.ReturnsUndoEntries : Prop :=
  (∀ (w : Word) (s : State), ∃ t u,
     exec (.jsr w) s = .next t ∧ exec .rts t = .next u ∧
     u.cpu = { s.cpu with pc := s.cpu.pc + 3#16, cycles := s.cpu.cycles + 12 }) ∧
  (∀ s : State, StatusHeld s →
     ∃ t, exec .rti (interrupt 0xFFFA#16 s) = .next t ∧ t.cpu = { s.cpu with cycles := s.cpu.cycles + 13 })

/-- RTI: P and then PC from the stack, low byte first, with bits 5 and 4 of P held; SP is three higher; nothing else but the read log
(R213). -/
def Obligations.RtiRestores : Prop :=
  ∀ s : State, ∃ pc : Word,
    encode .rti = [0x40#8] ∧
    exec .rti s = .next { s with
      cpu := { s.cpu with
        sp := s.cpu.sp + 3#8
        p := (s.cpuByte (stackIndexUp s 1) &&& 0xCF#8) ||| 0x20#8
        pc := pc
        cycles := s.cpu.cycles + 6 }
      bus := { s.bus with lastRead := some (BitVec.ofNat 16 (stackIndexUp s 3)) } } ∧
    pc.toNat = (s.cpuByte (stackIndexUp s 3)).toNat * 256 + (s.cpuByte (stackIndexUp s 2)).toNat

/-- BRK takes the exception at 0xFFFE with `pc0 + 2` saved, whatever P.I is, and an RTI comes back there (R214). -/
def Obligations.BrkTakesTheTrap : Prop :=
  ∀ s : State, ∃ t, encode .brk = [0x00#8] ∧ exec .brk s = .next t ∧ ExceptionEntry (s.cpu.pc + 2#16) 0xFFFE 7 s t ∧
    ∃ u, exec .rti t = .next u ∧ u.cpu.pc = s.cpu.pc + 2#16 ∧ u.cpu.sp = s.cpu.sp

/-- Interrupt entry: the pushes, the I flag, the two vector reads and the 7 cycles, in that order, for any vector; and the whole
outcome for the NMI vector, where every access is plain memory (60_exceptions.md R304). -/
def Obligations.InterruptEntry : Prop :=
  ∀ s : State,
    (∀ vector : Word,
      let t := push (s.cpu.p ||| 0x30#8) (push (lowByte s.cpu.pc) (push (highByte s.cpu.pc) s))
      let t := { t with cpu := { t.cpu with p := t.cpu.p ||| 0x04#8 } }
      let lo := cpuRead vector t
      let hi := cpuRead (vector + 1#16) lo.2
      interrupt vector s =
        { hi.2 with cpu := { hi.2.cpu with pc := wordOf hi.1 lo.1, cycles := hi.2.cpu.cycles + 7 } }) ∧
    ExceptionEntry s.cpu.pc 0xFFFA 7 s (interrupt 0xFFFA#16 s)

/-! ### Stack, flags and no operation -/

/-- PHA and PHP: one byte at 0x0100 + SP, SP one lower, no flag; the pushed status has bits 4 and 5 set (45_stack_flag_misc.md R222,
R223). PLA and PLP: the byte at 0x0100 + (SP + 1), into A with N and Z, or into P with bits 5 and 4 held (R224, R225). -/
def Obligations.PushAndPullInstructions : Prop :=
  (∀ s : State,
     encode .pha = [0x48#8] ∧ encode .php = [0x08#8] ∧
     ∀ iv ∈ [(Instr.pha, s.cpu.a), (Instr.php, s.cpu.p ||| 0x30#8)],
       ∃ t, exec iv.1 s = .next t ∧
         t.cpuByte (stackIndex s 0) = iv.2 ∧ (∀ q, q ≠ stackIndex s 0 → t.cpuByte q = s.cpuByte q) ∧
         t.cpu = { s.cpu with sp := s.cpu.sp - 1#8, pc := s.cpu.pc + 1#16, cycles := s.cpu.cycles + 3 } ∧
         SamePpuSide s t ∧ SameDevices s t ∧ t.bus = { s.bus with lastWrite := some (BitVec.ofNat 16 (stackIndex s 0)) }) ∧
  (∀ s : State,
     let b := s.cpuByte (stackIndexUp s 1)
     let log := { s.bus with lastRead := some (BitVec.ofNat 16 (stackIndexUp s 1)) }
     encode .pla = [0x68#8] ∧ encode .plp = [0x28#8] ∧
     (∃ p', exec .pla s = .next { s with
         cpu := { s.cpu with a := b, p := p', sp := s.cpu.sp + 1#8, pc := s.cpu.pc + 1#16, cycles := s.cpu.cycles + 4 }
         bus := log } ∧ OnlyNZ b s.cpu.p p') ∧
     exec .plp s = .next { s with
       cpu := { s.cpu with
         p := (b &&& 0xCF#8) ||| 0x20#8, sp := s.cpu.sp + 1#8, pc := s.cpu.pc + 1#16, cycles := s.cpu.cycles + 4 }
       bus := log })

/-- The seven flag instructions write their flag and nothing else of P; NOP writes nothing (R226 to R233). -/
def Obligations.FlagInstructionsAndNop : Prop :=
  RegisterInstr .clc 0x18#8 1 2 (fun c c' => OnlyP c c' ∧
    StatusIs c.p c'.p (flagN c.p) (flagV c.p) (flagD c.p) (flagI c.p) (flagZ c.p) false) ∧
  RegisterInstr .cld 0xD8#8 1 2 (fun c c' => OnlyP c c' ∧
    StatusIs c.p c'.p (flagN c.p) (flagV c.p) false (flagI c.p) (flagZ c.p) (flagC c.p)) ∧
  RegisterInstr .cli 0x58#8 1 2 (fun c c' => OnlyP c c' ∧
    StatusIs c.p c'.p (flagN c.p) (flagV c.p) (flagD c.p) false (flagZ c.p) (flagC c.p)) ∧
  RegisterInstr .clv 0xB8#8 1 2 (fun c c' => OnlyP c c' ∧
    StatusIs c.p c'.p (flagN c.p) false (flagD c.p) (flagI c.p) (flagZ c.p) (flagC c.p)) ∧
  RegisterInstr .sec 0x38#8 1 2 (fun c c' => OnlyP c c' ∧
    StatusIs c.p c'.p (flagN c.p) (flagV c.p) (flagD c.p) (flagI c.p) (flagZ c.p) true) ∧
  RegisterInstr .sed 0xF8#8 1 2 (fun c c' => OnlyP c c' ∧
    StatusIs c.p c'.p (flagN c.p) (flagV c.p) true (flagI c.p) (flagZ c.p) (flagC c.p)) ∧
  RegisterInstr .sei 0x78#8 1 2 (fun c c' => OnlyP c c' ∧
    StatusIs c.p c'.p (flagN c.p) (flagV c.p) (flagD c.p) true (flagZ c.p) (flagC c.p)) ∧
  RegisterInstr .nop 0xEA#8 1 2 (fun c c' => c' = { c with pc := c'.pc, cycles := c'.cycles })

/-- Bytes pushed and pulled again come back in reverse order with SP restored; the stack wraps inside 0x0100 to 0x01FF both ways
(R234). -/
def Obligations.StackReversesAndWraps : Prop :=
  (∀ (bytes : List Byte) (s : State), bytes.length ≤ 256 →
    (pullMany bytes.length (pushAll bytes s)).1 = bytes.reverse ∧
    (pullMany bytes.length (pushAll bytes s)).2.cpu = s.cpu ∧
    ∀ q, ¬(0x100 ≤ q ∧ q ≤ 0x1FF) → (pushAll bytes s).cpuByte q = s.cpuByte q) ∧
  (∀ (v : Byte) (s : State), s.cpu.sp = 0x00#8 → (push v s).cpuByte 0x100 = v ∧ (push v s).cpu.sp = 0xFF#8) ∧
  (∀ s : State, s.cpu.sp = 0xFF#8 → (pull s).1 = s.cpuByte 0x100 ∧ (pull s).2.cpu.sp = 0x00#8)

/-! ### PPU timing, NMI and the driver -/

/-- One PPU tick: the counter first, then VBlank set at 82181, VBlank clear with frame completion at 0, nothing else anywhere
(60_exceptions.md R340 to R342). That a frame is rendered and a Frame event emitted in every build is the model's choice (log entry 9;
R360 leaves the renderer to the build). -/
def Obligations.PpuTick : Prop :=
  ∀ s : State,
    let c := (s.ppu.cycle + 1) % 89342
    (c = 82181 → ppuTick s =
      { s with ppu := { s.ppu with cycle := c, status := s.ppu.status ||| 0x80#8, nmiRequest := true } }) ∧
    (c = 0 →
      let u := { s with ppu := { s.ppu with cycle := 0, status := s.ppu.status &&& 0x7F#8 } }
      ppuTick s = { u with
        ppu := { u.ppu with frame := some (render u), frameCount := s.ppu.frameCount + 1 }
        diag := { s.diag with events := s.diag.events ++ [.frame (render u)] } }) ∧
    (c ≠ 82181 → c ≠ 0 → ppuTick s = { s with ppu := { s.ppu with cycle := c } })

/-- From counter 0 with VBlank clear, VBlank is clear up to tick 82180, set from 82181 to 89341 and clear again at 89342, when the
counter is back at 0 and one frame more has been counted (R343). -/
def Obligations.VBlankTimeline : Prop :=
  ∀ (s : State) (n : Nat), s.ppu.cycle = 0 → s.ppu.status.getLsbD 7 = false → n ≤ 89342 →
    (ticks n s).ppu.status.getLsbD 7 = decide (82181 ≤ n ∧ n < 89342) ∧
    (ticks n s).ppu.cycle = n % 89342 ∧ (ticks n s).ppu.frameCount = s.ppu.frameCount + n / 89342 ∧
    (ticks n s).ppu.nmiRequest = (s.ppu.nmiRequest || decide (82181 ≤ n))

/-- `sync` runs three ticks for every CPU cycle not yet converted, and marks them converted; it does nothing when none is left
(70_reset_and_hazards.md R401). The drain: nothing without a request; otherwise the request is cleared, the NMI is entered if CTRL bit 7
is set, whatever P.I is, and the PPU is synchronised (R402, 60_exceptions.md R305). That the closing `sync` belongs to a request drained
with CTRL bit 7 clear too is the model's reading of R402 (log entry 11, DEDUCED). -/
def Obligations.SyncAndDrain : Prop :=
  (∀ s : State, s.driver.cyclesSynced ≤ s.cpu.cycles →
     sync s =
       { ticks (3 * (s.cpu.cycles - s.driver.cyclesSynced)) s with
         driver := { s.driver with cyclesSynced := s.cpu.cycles } }) ∧
  (∀ s : State, s.cpu.cycles ≤ s.driver.cyclesSynced → sync s = s) ∧
  (∀ s : State,
     let t := { s with ppu := { s.ppu with nmiRequest := false } }
     (s.ppu.nmiRequest = false → drain s = s) ∧
     (s.ppu.nmiRequest = true → s.ppu.ctrl.getLsbD 7 = false → drain s = sync t) ∧
     (s.ppu.nmiRequest = true → s.ppu.ctrl.getLsbD 7 = true → drain s = sync (interrupt 0xFFFA#16 t)))

/-- The end of an iteration enters the NMI exactly when a request is pending by then and CTRL bit 7 is set: one raised by this
iteration's own ticks, or one pending before them, as the ticks of an interrupt entry leave it (R413). The entry stands between that
instruction and the next (60_exceptions.md R305, R307), and a request is pending after it exactly when its 21 ticks reach VBlank. In
every other case no CPU register and no memory byte changes and no request is left: one drained with CTRL bit 7 clear is lost. -/
def Obligations.NmiLatency : Prop :=
  ∀ s : State, s.driver.cyclesSynced ≤ s.cpu.cycles → s.ppu.cycle < 89342 →
    let owed := 3 * (s.cpu.cycles - s.driver.cyclesSynced)
    let reached := ∃ n, 1 ≤ n ∧ n ≤ owed ∧ (s.ppu.cycle + n) % 89342 = 82181
    let taken := (s.ppu.nmiRequest = true ∨ reached) ∧ s.ppu.ctrl.getLsbD 7 = true
    let t := finishIteration s
    (taken →
      (t.cpuByte (stackIndex s 0)).toNat = s.cpu.pc.toNat / 256 ∧ (t.cpuByte (stackIndex s 1)).toNat = s.cpu.pc.toNat % 256 ∧
      t.cpuByte (stackIndex s 2) = s.cpu.p ||| 0x30#8 ∧
      t.cpu = { s.cpu with
        sp := s.cpu.sp - 3#8, p := s.cpu.p ||| 0x04#8, pc := wordOf (s.cpuByte 0xFFFB) (s.cpuByte 0xFFFA)
        cycles := s.cpu.cycles + 7 } ∧
      (t.ppu.nmiRequest = true ↔ ∃ n, 1 ≤ n ∧ n ≤ 21 ∧ (s.ppu.cycle + owed + n) % 89342 = 82181)) ∧
    (¬ taken → t.cpu = s.cpu ∧ t.mem = s.mem ∧ t.ppu.nmiRequest = false)

/-- Breakpoints, pause, single-step and resume, by what the host presents at the check (60_exceptions.md R380, R400 step 1). That one
check draws the breakpoint set, at most one pending command and the tracing switch, from the known inputs first and beyond them a free
value with a number of its own, and that a single-step leaves `paused` as it was, are the model's choices (log entries 5, 6 and 7). With
tracing on one line with PC, A, X, Y, SP and P is appended before the CPU step, and nothing else changes; with tracing off nothing does
(R381). -/
def Obligations.BreakpointsAndTrace : Prop :=
  (∀ s : State,
     (∀ d rest, s.host.checks = d :: rest → sampleDebug s = (d, { s with host := { s.host with checks := rest } })) ∧
     (s.host.checks = [] → sampleDebug s =
       ({ breakpoints := Config.hostBreakpoints s.host.checkDraws, command := Config.hostCommand s.host.checkDraws,
          tracing := Config.hostTracing s.host.checkDraws },
        { s with host := { s.host with checkDraws := s.host.checkDraws + 1 } }))) ∧
  (∀ s : State,
     let d := (sampleDebug s).1
     let u := (sampleDebug s).2
     (d.command = none → s.driver.paused = true → step s = .next u) ∧
     (d.command = none → s.driver.paused = false → s.cpu.pc ∈ d.breakpoints →
       step s = .next { u with driver := { s.driver with paused := true } }) ∧
     (d.command = none → s.driver.paused = false → s.cpu.pc ∉ d.breakpoints → step s = cpuStep (trace d.tracing u)) ∧
     (d.command = some .singleStep → step s = cpuStep (trace d.tracing u)) ∧
     (d.command = some .resume →
       step s = cpuStep (trace d.tracing { u with driver := { s.driver with paused := false } }))) ∧
  (∀ s : State,
     trace true s = { s with
       diag := { s.diag with
         events := s.diag.events ++
           [.trace { pc := s.cpu.pc, a := s.cpu.a, x := s.cpu.x, y := s.cpu.y, sp := s.cpu.sp, p := s.cpu.p }] } } ∧
     trace false s = s)

/-! ### The renderer -/

/-- The frame has 240 rows of 256 bytes; each pixel is what the last opaque sprite over it draws, else the background (60_exceptions.md
R360, R363, R364). What the background and one sprite draw at a pixel, spelled out from the nametable, the pattern planes, OAM and CTRL
(R361 to R363). -/
def Obligations.FramePixels : Prop :=
  (∀ s : State, FrameShape (render s) ∧
     ∀ y x, y < 240 → x < 256 →
       let pixel := ((render s)[y]?.getD [])[x]?
       ((∀ n, n < 64 → spritePixel n y x s = none) → pixel = some (backgroundPixel y x s)) ∧
       (∀ n v, n < 64 → spritePixel n y x s = some v → (∀ m, n < m → m < 64 → spritePixel m y x s = none) → pixel = some v)) ∧
  (∀ (s : State) (n y x : Nat), n < 64 → y < 240 → x < 256 →
     let rd := fun a => ppuRead (BitVec.ofNat 16 a) s
     let tile := fun (table t row col : Nat) =>
       ((rd (table + 16 * t + row)).getLsbD (7 - col)).toNat + 2 * ((rd (table + 16 * t + row + 8)).getLsbD (7 - col)).toNat
     backgroundPixel y x s =
       rd (0x3F00 + tile (if s.ppu.ctrl.getLsbD 4 then 0x1000 else 0) (rd (0x2000 + 32 * (y / 8) + x / 8)).toNat (y % 8) (x % 8)) ∧
     (let top := (s.oamByte (4 * n)).toNat
      let t := (s.oamByte (4 * n + 1)).toNat
      let attr := (s.oamByte (4 * n + 2)).toNat
      let left := (s.oamByte (4 * n + 3)).toNat
      let tall := s.ppu.ctrl.getLsbD 5
      let row := y - top
      let col := x - left
      let i := if tall then tile (if t % 2 = 1 then 0x1000 else 0) (t / 2 * 2 + row / 8) (row % 8) col
               else tile (if s.ppu.ctrl.getLsbD 3 then 0x1000 else 0) t row col
      spritePixel n y x s =
        if top ≤ y ∧ y < top + (if tall then 16 else 8) ∧ left ≤ x ∧ x < left + 8 ∧ i ≠ 0 then
          some (rd (0x3F10 + 4 * (attr % 4) + i))
        else none))

/-- The frame depends on PPU memory, the nametables, OAM, CTRL and the mirroring alone: not on MASK, scroll, the CPU side or anything
else (R360, R366, 70_reset_and_hazards.md R419). -/
def Obligations.RendererInputs : Prop :=
  ∀ s t : State, SamePpuSide s t → t.ppu.ctrl = s.ppu.ctrl → t.params.mirroring = s.params.mirroring → render t = render s

/-! ### The whole machine -/

/-- No state and no instruction stops the machine (20_memory.md R75, 60_exceptions.md R301, R302). -/
def Obligations.NothingStops : Prop :=
  (∀ (i : Instr) (s : State), ∃ t, exec i s = .next t) ∧ ∀ s : State, ∃ t, step s = .next t

/-- An instruction costs 2 to 7 cycles, plus at most 2 under NMOS, and touches neither the driver, the diagnostics nor the parameters,
nor the PPU's counter, request, frame and frame count: those move only in the rest of the iteration (R405, 60_exceptions.md R306). -/
def Obligations.InstructionsLeaveTheDriver : Prop :=
  ∀ (i : Instr) (s t : State), exec i s = .next t →
    t.driver = s.driver ∧ t.diag = s.diag ∧ t.params = s.params ∧
    t.ppu.cycle = s.ppu.cycle ∧ t.ppu.nmiRequest = s.ppu.nmiRequest ∧ t.ppu.frame = s.ppu.frame ∧
    t.ppu.frameCount = s.ppu.frameCount ∧
    t.host = { s.host with draws := t.host.draws } ∧ s.host.draws ≤ t.host.draws ∧
    s.cpu.cycles + 2 ≤ t.cpu.cycles ∧
    t.cpu.cycles ≤ s.cpu.cycles + 7 + (match s.params.extraCycles with | .baseOnly => 0 | .nmos => 2)

/-- `events` only grows at its end and `illegal_seen` is never cleared; it becomes true only in an iteration that reports an illegal
opcode (10_state.md R29). No step changes the parameters (00_scope.md R8). That the host's inputs stand in State, that a step takes
exactly one known input of the breakpoint check or, when none is known, one draw, and that it leaves the held button mask and never
counts samples down, are the model's choices (log entries 4, 5 and 7). -/
def Obligations.RecordsAndConfiguration : Prop :=
  (∀ s t : State, step s = .next t →
     ∃ more, t.diag.events = s.diag.events ++ more ∧
       (t.diag.illegalSeen = true ↔ s.diag.illegalSeen = true ∨ ∃ pc op, Event.illegalInstruction pc op ∈ more)) ∧
  (∀ s t : State, step s = .next t →
     t.params = s.params ∧ t.host.checks = s.host.checks.tail ∧
     t.host.checkDraws = s.host.checkDraws + (if s.host.checks.isEmpty then 1 else 0) ∧
     t.host.buttons = s.host.buttons ∧ s.host.draws ≤ t.host.draws)

/-- Every step keeps the canonical form of the four memories: addresses strictly rising and inside their arrays (R30 to R33). -/
def Obligations.StepKeepsMemoryForm : Prop :=
  ∀ s t : State, s.mem.wf = true → Sys2Proof.Machine.step s = .next t → t.mem.wf = true

/-- Every step keeps bits 5 and 4 of P at 1 and 0, STATUS bits 6:0 at 0, and the PPU counter and controller cursor in range (R26, R36,
R42, R46). -/
def Obligations.StepKeepsRegisterForms : Prop :=
  ∀ s t : State, StatusHeld s ∧ VBlankOnly s ∧ CountersInRange s → Sys2Proof.Machine.step s = .next t →
    StatusHeld t ∧ VBlankOnly t ∧ CountersInRange t

/-- Every step keeps the ratio invariant: all CPU cycles converted, the PPU counter and the frame count at three ticks a cycle
(70_reset_and_hazards.md R405). -/
def Obligations.StepKeepsClockRatio : Prop :=
  ∀ s t : State, ClockRatio s → Sys2Proof.Machine.step s = .next t → ClockRatio t

/-- What the CORE only records is never read: two states that differ in the transaction log, the scroll bytes, the frame, the frame
count and the diagnostics alone step to two such states (10_state.md R29, R41, R44, R45). -/
def Obligations.OutputsAreNeverRead : Prop :=
  ∀ s s' : State, SameButOutputs s s' →
    ∃ t t', Sys2Proof.Machine.step s = .next t ∧ Sys2Proof.Machine.step s' = .next t' ∧ SameButOutputs t t'

end Slice0Statements
end

