-- ==== Sys2Proof/Laws/State.lean ====
section
/-!
SUPPORT. One lemma per group of the state per update: what each named update writes and what it leaves, all true by rfl.
-/
namespace Sys2Proof.Machine

@[simp] theorem State.setCpu_cpu (s : State) (v : Cpu) : (s.setCpu v).cpu = v := rfl
@[simp] theorem State.setCpu_ppu (s : State) (v : Cpu) : (s.setCpu v).ppu = s.ppu := rfl
@[simp] theorem State.setCpu_mem (s : State) (v : Cpu) : (s.setCpu v).mem = s.mem := rfl
@[simp] theorem State.setCpu_bus (s : State) (v : Cpu) : (s.setCpu v).bus = s.bus := rfl
@[simp] theorem State.setCpu_pad (s : State) (v : Cpu) : (s.setCpu v).pad = s.pad := rfl
@[simp] theorem State.setCpu_driver (s : State) (v : Cpu) : (s.setCpu v).driver = s.driver := rfl
@[simp] theorem State.setCpu_diag (s : State) (v : Cpu) : (s.setCpu v).diag = s.diag := rfl
@[simp] theorem State.setCpu_host (s : State) (v : Cpu) : (s.setCpu v).host = s.host := rfl
@[simp] theorem State.setCpu_params (s : State) (v : Cpu) : (s.setCpu v).params = s.params := rfl
@[simp] theorem State.setCpu_setCpu (s : State) (u v : Cpu) : (s.setCpu u).setCpu v = s.setCpu v := rfl
@[simp] theorem State.setCpu_self (s : State) : s.setCpu s.cpu = s := rfl

@[simp] theorem State.setPpu_cpu (s : State) (v : Ppu) : (s.setPpu v).cpu = s.cpu := rfl
@[simp] theorem State.setPpu_ppu (s : State) (v : Ppu) : (s.setPpu v).ppu = v := rfl
@[simp] theorem State.setPpu_mem (s : State) (v : Ppu) : (s.setPpu v).mem = s.mem := rfl
@[simp] theorem State.setPpu_bus (s : State) (v : Ppu) : (s.setPpu v).bus = s.bus := rfl
@[simp] theorem State.setPpu_pad (s : State) (v : Ppu) : (s.setPpu v).pad = s.pad := rfl
@[simp] theorem State.setPpu_driver (s : State) (v : Ppu) : (s.setPpu v).driver = s.driver := rfl
@[simp] theorem State.setPpu_diag (s : State) (v : Ppu) : (s.setPpu v).diag = s.diag := rfl
@[simp] theorem State.setPpu_host (s : State) (v : Ppu) : (s.setPpu v).host = s.host := rfl
@[simp] theorem State.setPpu_params (s : State) (v : Ppu) : (s.setPpu v).params = s.params := rfl
@[simp] theorem State.setPpu_setPpu (s : State) (u v : Ppu) : (s.setPpu u).setPpu v = s.setPpu v := rfl
@[simp] theorem State.setPpu_self (s : State) : s.setPpu s.ppu = s := rfl

@[simp] theorem State.setMem_cpu (s : State) (v : Mems) : (s.setMem v).cpu = s.cpu := rfl
@[simp] theorem State.setMem_ppu (s : State) (v : Mems) : (s.setMem v).ppu = s.ppu := rfl
@[simp] theorem State.setMem_mem (s : State) (v : Mems) : (s.setMem v).mem = v := rfl
@[simp] theorem State.setMem_bus (s : State) (v : Mems) : (s.setMem v).bus = s.bus := rfl
@[simp] theorem State.setMem_pad (s : State) (v : Mems) : (s.setMem v).pad = s.pad := rfl
@[simp] theorem State.setMem_driver (s : State) (v : Mems) : (s.setMem v).driver = s.driver := rfl
@[simp] theorem State.setMem_diag (s : State) (v : Mems) : (s.setMem v).diag = s.diag := rfl
@[simp] theorem State.setMem_host (s : State) (v : Mems) : (s.setMem v).host = s.host := rfl
@[simp] theorem State.setMem_params (s : State) (v : Mems) : (s.setMem v).params = s.params := rfl
@[simp] theorem State.setMem_setMem (s : State) (u v : Mems) : (s.setMem u).setMem v = s.setMem v := rfl
@[simp] theorem State.setMem_self (s : State) : s.setMem s.mem = s := rfl

@[simp] theorem State.setBus_cpu (s : State) (v : BusLog) : (s.setBus v).cpu = s.cpu := rfl
@[simp] theorem State.setBus_ppu (s : State) (v : BusLog) : (s.setBus v).ppu = s.ppu := rfl
@[simp] theorem State.setBus_mem (s : State) (v : BusLog) : (s.setBus v).mem = s.mem := rfl
@[simp] theorem State.setBus_bus (s : State) (v : BusLog) : (s.setBus v).bus = v := rfl
@[simp] theorem State.setBus_pad (s : State) (v : BusLog) : (s.setBus v).pad = s.pad := rfl
@[simp] theorem State.setBus_driver (s : State) (v : BusLog) : (s.setBus v).driver = s.driver := rfl
@[simp] theorem State.setBus_diag (s : State) (v : BusLog) : (s.setBus v).diag = s.diag := rfl
@[simp] theorem State.setBus_host (s : State) (v : BusLog) : (s.setBus v).host = s.host := rfl
@[simp] theorem State.setBus_params (s : State) (v : BusLog) : (s.setBus v).params = s.params := rfl
@[simp] theorem State.setBus_setBus (s : State) (u v : BusLog) : (s.setBus u).setBus v = s.setBus v := rfl
@[simp] theorem State.setBus_self (s : State) : s.setBus s.bus = s := rfl

@[simp] theorem State.setPad_cpu (s : State) (v : Pad) : (s.setPad v).cpu = s.cpu := rfl
@[simp] theorem State.setPad_ppu (s : State) (v : Pad) : (s.setPad v).ppu = s.ppu := rfl
@[simp] theorem State.setPad_mem (s : State) (v : Pad) : (s.setPad v).mem = s.mem := rfl
@[simp] theorem State.setPad_bus (s : State) (v : Pad) : (s.setPad v).bus = s.bus := rfl
@[simp] theorem State.setPad_pad (s : State) (v : Pad) : (s.setPad v).pad = v := rfl
@[simp] theorem State.setPad_driver (s : State) (v : Pad) : (s.setPad v).driver = s.driver := rfl
@[simp] theorem State.setPad_diag (s : State) (v : Pad) : (s.setPad v).diag = s.diag := rfl
@[simp] theorem State.setPad_host (s : State) (v : Pad) : (s.setPad v).host = s.host := rfl
@[simp] theorem State.setPad_params (s : State) (v : Pad) : (s.setPad v).params = s.params := rfl
@[simp] theorem State.setPad_setPad (s : State) (u v : Pad) : (s.setPad u).setPad v = s.setPad v := rfl
@[simp] theorem State.setPad_self (s : State) : s.setPad s.pad = s := rfl

@[simp] theorem State.setDriver_cpu (s : State) (v : Driver) : (s.setDriver v).cpu = s.cpu := rfl
@[simp] theorem State.setDriver_ppu (s : State) (v : Driver) : (s.setDriver v).ppu = s.ppu := rfl
@[simp] theorem State.setDriver_mem (s : State) (v : Driver) : (s.setDriver v).mem = s.mem := rfl
@[simp] theorem State.setDriver_bus (s : State) (v : Driver) : (s.setDriver v).bus = s.bus := rfl
@[simp] theorem State.setDriver_pad (s : State) (v : Driver) : (s.setDriver v).pad = s.pad := rfl
@[simp] theorem State.setDriver_driver (s : State) (v : Driver) : (s.setDriver v).driver = v := rfl
@[simp] theorem State.setDriver_diag (s : State) (v : Driver) : (s.setDriver v).diag = s.diag := rfl
@[simp] theorem State.setDriver_host (s : State) (v : Driver) : (s.setDriver v).host = s.host := rfl
@[simp] theorem State.setDriver_params (s : State) (v : Driver) : (s.setDriver v).params = s.params := rfl
@[simp] theorem State.setDriver_setDriver (s : State) (u v : Driver) : (s.setDriver u).setDriver v = s.setDriver v := rfl
@[simp] theorem State.setDriver_self (s : State) : s.setDriver s.driver = s := rfl

@[simp] theorem State.setDiag_cpu (s : State) (v : Diag) : (s.setDiag v).cpu = s.cpu := rfl
@[simp] theorem State.setDiag_ppu (s : State) (v : Diag) : (s.setDiag v).ppu = s.ppu := rfl
@[simp] theorem State.setDiag_mem (s : State) (v : Diag) : (s.setDiag v).mem = s.mem := rfl
@[simp] theorem State.setDiag_bus (s : State) (v : Diag) : (s.setDiag v).bus = s.bus := rfl
@[simp] theorem State.setDiag_pad (s : State) (v : Diag) : (s.setDiag v).pad = s.pad := rfl
@[simp] theorem State.setDiag_driver (s : State) (v : Diag) : (s.setDiag v).driver = s.driver := rfl
@[simp] theorem State.setDiag_diag (s : State) (v : Diag) : (s.setDiag v).diag = v := rfl
@[simp] theorem State.setDiag_host (s : State) (v : Diag) : (s.setDiag v).host = s.host := rfl
@[simp] theorem State.setDiag_params (s : State) (v : Diag) : (s.setDiag v).params = s.params := rfl
@[simp] theorem State.setDiag_setDiag (s : State) (u v : Diag) : (s.setDiag u).setDiag v = s.setDiag v := rfl
@[simp] theorem State.setDiag_self (s : State) : s.setDiag s.diag = s := rfl

@[simp] theorem State.setHost_cpu (s : State) (v : HostInput) : (s.setHost v).cpu = s.cpu := rfl
@[simp] theorem State.setHost_ppu (s : State) (v : HostInput) : (s.setHost v).ppu = s.ppu := rfl
@[simp] theorem State.setHost_mem (s : State) (v : HostInput) : (s.setHost v).mem = s.mem := rfl
@[simp] theorem State.setHost_bus (s : State) (v : HostInput) : (s.setHost v).bus = s.bus := rfl
@[simp] theorem State.setHost_pad (s : State) (v : HostInput) : (s.setHost v).pad = s.pad := rfl
@[simp] theorem State.setHost_driver (s : State) (v : HostInput) : (s.setHost v).driver = s.driver := rfl
@[simp] theorem State.setHost_diag (s : State) (v : HostInput) : (s.setHost v).diag = s.diag := rfl
@[simp] theorem State.setHost_host (s : State) (v : HostInput) : (s.setHost v).host = v := rfl
@[simp] theorem State.setHost_params (s : State) (v : HostInput) : (s.setHost v).params = s.params := rfl
@[simp] theorem State.setHost_setHost (s : State) (u v : HostInput) : (s.setHost u).setHost v = s.setHost v := rfl
@[simp] theorem State.setHost_self (s : State) : s.setHost s.host = s := rfl

@[simp] theorem State.setCpu_cpuByte (s : State) (v : Cpu) (k : Nat) : (s.setCpu v).cpuByte k = s.cpuByte k := rfl
@[simp] theorem State.setPpu_cpuByte (s : State) (v : Ppu) (k : Nat) : (s.setPpu v).cpuByte k = s.cpuByte k := rfl
@[simp] theorem State.setBus_cpuByte (s : State) (v : BusLog) (k : Nat) : (s.setBus v).cpuByte k = s.cpuByte k := rfl
@[simp] theorem State.setPad_cpuByte (s : State) (v : Pad) (k : Nat) : (s.setPad v).cpuByte k = s.cpuByte k := rfl
@[simp] theorem State.setDriver_cpuByte (s : State) (v : Driver) (k : Nat) : (s.setDriver v).cpuByte k = s.cpuByte k := rfl
@[simp] theorem State.setDiag_cpuByte (s : State) (v : Diag) (k : Nat) : (s.setDiag v).cpuByte k = s.cpuByte k := rfl
@[simp] theorem State.setHost_cpuByte (s : State) (v : HostInput) (k : Nat) : (s.setHost v).cpuByte k = s.cpuByte k := rfl

@[simp] theorem State.setCpu_ppuByte (s : State) (v : Cpu) (k : Nat) : (s.setCpu v).ppuByte k = s.ppuByte k := rfl
@[simp] theorem State.setPpu_ppuByte (s : State) (v : Ppu) (k : Nat) : (s.setPpu v).ppuByte k = s.ppuByte k := rfl
@[simp] theorem State.setBus_ppuByte (s : State) (v : BusLog) (k : Nat) : (s.setBus v).ppuByte k = s.ppuByte k := rfl
@[simp] theorem State.setPad_ppuByte (s : State) (v : Pad) (k : Nat) : (s.setPad v).ppuByte k = s.ppuByte k := rfl
@[simp] theorem State.setDriver_ppuByte (s : State) (v : Driver) (k : Nat) : (s.setDriver v).ppuByte k = s.ppuByte k := rfl
@[simp] theorem State.setDiag_ppuByte (s : State) (v : Diag) (k : Nat) : (s.setDiag v).ppuByte k = s.ppuByte k := rfl
@[simp] theorem State.setHost_ppuByte (s : State) (v : HostInput) (k : Nat) : (s.setHost v).ppuByte k = s.ppuByte k := rfl

@[simp] theorem State.setCpu_ntByte (s : State) (v : Cpu) (k : Nat) : (s.setCpu v).ntByte k = s.ntByte k := rfl
@[simp] theorem State.setPpu_ntByte (s : State) (v : Ppu) (k : Nat) : (s.setPpu v).ntByte k = s.ntByte k := rfl
@[simp] theorem State.setBus_ntByte (s : State) (v : BusLog) (k : Nat) : (s.setBus v).ntByte k = s.ntByte k := rfl
@[simp] theorem State.setPad_ntByte (s : State) (v : Pad) (k : Nat) : (s.setPad v).ntByte k = s.ntByte k := rfl
@[simp] theorem State.setDriver_ntByte (s : State) (v : Driver) (k : Nat) : (s.setDriver v).ntByte k = s.ntByte k := rfl
@[simp] theorem State.setDiag_ntByte (s : State) (v : Diag) (k : Nat) : (s.setDiag v).ntByte k = s.ntByte k := rfl
@[simp] theorem State.setHost_ntByte (s : State) (v : HostInput) (k : Nat) : (s.setHost v).ntByte k = s.ntByte k := rfl

@[simp] theorem State.setCpu_oamByte (s : State) (v : Cpu) (k : Nat) : (s.setCpu v).oamByte k = s.oamByte k := rfl
@[simp] theorem State.setPpu_oamByte (s : State) (v : Ppu) (k : Nat) : (s.setPpu v).oamByte k = s.oamByte k := rfl
@[simp] theorem State.setBus_oamByte (s : State) (v : BusLog) (k : Nat) : (s.setBus v).oamByte k = s.oamByte k := rfl
@[simp] theorem State.setPad_oamByte (s : State) (v : Pad) (k : Nat) : (s.setPad v).oamByte k = s.oamByte k := rfl
@[simp] theorem State.setDriver_oamByte (s : State) (v : Driver) (k : Nat) : (s.setDriver v).oamByte k = s.oamByte k := rfl
@[simp] theorem State.setDiag_oamByte (s : State) (v : Diag) (k : Nat) : (s.setDiag v).oamByte k = s.oamByte k := rfl
@[simp] theorem State.setHost_oamByte (s : State) (v : HostInput) (k : Nat) : (s.setHost v).oamByte k = s.oamByte k := rfl

@[simp] theorem emit_cpu (e : Event) (s : State) : (emit e s).cpu = s.cpu := rfl
@[simp] theorem emit_ppu (e : Event) (s : State) : (emit e s).ppu = s.ppu := rfl
@[simp] theorem emit_mem (e : Event) (s : State) : (emit e s).mem = s.mem := rfl
@[simp] theorem emit_bus (e : Event) (s : State) : (emit e s).bus = s.bus := rfl
@[simp] theorem emit_pad (e : Event) (s : State) : (emit e s).pad = s.pad := rfl
@[simp] theorem emit_driver (e : Event) (s : State) : (emit e s).driver = s.driver := rfl
@[simp] theorem emit_diag (e : Event) (s : State) : (emit e s).diag = { s.diag with events := s.diag.events ++ [e] } := rfl
@[simp] theorem emit_host (e : Event) (s : State) : (emit e s).host = s.host := rfl
@[simp] theorem emit_params (e : Event) (s : State) : (emit e s).params = s.params := rfl

end Sys2Proof.Machine
end

