-- ==== Sys2Proof/Laws/Memory.lean ====
section
/-!
SUPPORT. The byte arrays: a read after a write, and the canonical form, kept by the one operation that writes.
-/
namespace Sys2Proof.Machine

theorem Memory.get?_put_same (m : Memory) (a : Nat) (b : Byte) : (m.put a b).get? a = some b := by
  induction m with
  | nil => simp [Memory.put, Memory.get?]
  | cons e rest ih =>
    obtain ⟨k, c⟩ := e
    simp only [Memory.put]
    split
    · simp [Memory.get?]
    · split
      · simp [Memory.get?]
      · rename_i h
        simp [Memory.get?, ih, Ne.symm h]

theorem Memory.get?_put_other (m : Memory) {a q : Nat} (b : Byte) (h : q ≠ a) : (m.put a b).get? q = m.get? q := by
  induction m with
  | nil => simp [Memory.put, Memory.get?, Ne.symm h]
  | cons e rest ih =>
    obtain ⟨k, c⟩ := e
    simp only [Memory.put]
    split
    · simp [Memory.get?, Ne.symm h]
    · split
      · rename_i h2
        subst h2
        simp [Memory.get?, Ne.symm h]
      · simp [Memory.get?, ih]

@[simp] theorem Memory.readOr_put_same (f : Nat → Byte) (m : Memory) (a : Nat) (b : Byte) : (m.put a b).readOr f a = b := by
  simp [Memory.readOr, Memory.get?_put_same]

theorem Memory.readOr_put_other (f : Nat → Byte) (m : Memory) {a q : Nat} (b : Byte) (h : q ≠ a) :
    (m.put a b).readOr f q = m.readOr f q := by
  simp [Memory.readOr, Memory.get?_put_other m b h]

/-- A write to an address of the array keeps the canonical form from any lower bound up to that address. -/
theorem Memory.wfFrom_put {size a : Nat} (b : Byte) (ha : a < size) :
    ∀ (m : Memory) (lo : Nat), lo ≤ a → m.wfFrom size lo = true → (m.put a b).wfFrom size lo = true := by
  intro m
  induction m with
  | nil => intro lo hlo _; simp [Memory.put, Memory.wfFrom, hlo, ha]
  | cons e rest ih =>
    obtain ⟨k, c⟩ := e
    intro lo hlo hwf
    simp only [Memory.wfFrom, Bool.and_eq_true, decide_eq_true_eq] at hwf
    obtain ⟨⟨h1, h2⟩, h3⟩ := hwf
    simp only [Memory.put]
    split
    · rename_i hk
      simp [Memory.wfFrom, hlo, ha, h2, h3, Nat.succ_le_of_lt hk]
    · split
      · rename_i hk
        subst hk
        simp [Memory.wfFrom, hlo, ha, h3]
      · have hk : k + 1 ≤ a := by omega
        simp [Memory.wfFrom, h1, h2, ih (k + 1) hk h3]

theorem Memory.wf_put {size a : Nat} (m : Memory) (b : Byte) (ha : a < size) (h : m.wf size = true) :
    (m.put a b).wf size = true :=
  Memory.wfFrom_put b ha m 0 (Nat.zero_le a) h

/-- What each store writes: one byte of one array. -/
@[simp] theorem putCpuByte_cpuByte_same (p : Nat) (v : Byte) (s : State) : (putCpuByte p v s).cpuByte p = v := by
  simp [putCpuByte, State.cpuByte]

theorem putCpuByte_cpuByte_other {p q : Nat} (v : Byte) (s : State) (h : q ≠ p) :
    (putCpuByte p v s).cpuByte q = s.cpuByte q := by
  simp [putCpuByte, State.cpuByte, Memory.readOr_put_other _ _ _ h]

@[simp] theorem putPpuByte_ppuByte_same (p : Nat) (v : Byte) (s : State) : (putPpuByte p v s).ppuByte p = v := by
  simp [putPpuByte, State.ppuByte]

theorem putPpuByte_ppuByte_other {p q : Nat} (v : Byte) (s : State) (h : q ≠ p) :
    (putPpuByte p v s).ppuByte q = s.ppuByte q := by
  simp [putPpuByte, State.ppuByte, Memory.readOr_put_other _ _ _ h]

@[simp] theorem putNtByte_ntByte_same (p : Nat) (v : Byte) (s : State) : (putNtByte p v s).ntByte p = v := by
  simp [putNtByte, State.ntByte]

theorem putNtByte_ntByte_other {p q : Nat} (v : Byte) (s : State) (h : q ≠ p) :
    (putNtByte p v s).ntByte q = s.ntByte q := by
  simp [putNtByte, State.ntByte, Memory.readOr_put_other _ _ _ h]

@[simp] theorem putOamByte_oamByte_same (p : Nat) (v : Byte) (s : State) : (putOamByte p v s).oamByte p = v := by
  simp [putOamByte, State.oamByte]

theorem putOamByte_oamByte_other {p q : Nat} (v : Byte) (s : State) (h : q ≠ p) :
    (putOamByte p v s).oamByte q = s.oamByte q := by
  simp [putOamByte, State.oamByte, Memory.readOr_put_other _ _ _ h]

@[simp] theorem putCpuByte_ppuByte (p q : Nat) (v : Byte) (s : State) : (putCpuByte p v s).ppuByte q = s.ppuByte q := rfl
@[simp] theorem putCpuByte_ntByte (p q : Nat) (v : Byte) (s : State) : (putCpuByte p v s).ntByte q = s.ntByte q := rfl
@[simp] theorem putCpuByte_oamByte (p q : Nat) (v : Byte) (s : State) : (putCpuByte p v s).oamByte q = s.oamByte q := rfl
@[simp] theorem putPpuByte_cpuByte (p q : Nat) (v : Byte) (s : State) : (putPpuByte p v s).cpuByte q = s.cpuByte q := rfl
@[simp] theorem putPpuByte_ntByte (p q : Nat) (v : Byte) (s : State) : (putPpuByte p v s).ntByte q = s.ntByte q := rfl
@[simp] theorem putPpuByte_oamByte (p q : Nat) (v : Byte) (s : State) : (putPpuByte p v s).oamByte q = s.oamByte q := rfl
@[simp] theorem putNtByte_cpuByte (p q : Nat) (v : Byte) (s : State) : (putNtByte p v s).cpuByte q = s.cpuByte q := rfl
@[simp] theorem putNtByte_ppuByte (p q : Nat) (v : Byte) (s : State) : (putNtByte p v s).ppuByte q = s.ppuByte q := rfl
@[simp] theorem putNtByte_oamByte (p q : Nat) (v : Byte) (s : State) : (putNtByte p v s).oamByte q = s.oamByte q := rfl
@[simp] theorem putOamByte_cpuByte (p q : Nat) (v : Byte) (s : State) : (putOamByte p v s).cpuByte q = s.cpuByte q := rfl
@[simp] theorem putOamByte_ppuByte (p q : Nat) (v : Byte) (s : State) : (putOamByte p v s).ppuByte q = s.ppuByte q := rfl
@[simp] theorem putOamByte_ntByte (p q : Nat) (v : Byte) (s : State) : (putOamByte p v s).ntByte q = s.ntByte q := rfl

/-- A store writes the memories and nothing else. -/
theorem putCpuByte_eq (p : Nat) (v : Byte) (s : State) : putCpuByte p v s = s.setMem (putCpuByte p v s).mem := rfl
theorem putPpuByte_eq (p : Nat) (v : Byte) (s : State) : putPpuByte p v s = s.setMem (putPpuByte p v s).mem := rfl
theorem putNtByte_eq (p : Nat) (v : Byte) (s : State) : putNtByte p v s = s.setMem (putNtByte p v s).mem := rfl
theorem putOamByte_eq (p : Nat) (v : Byte) (s : State) : putOamByte p v s = s.setMem (putOamByte p v s).mem := rfl

/-- Every store inside its array keeps the four canonical forms. -/
theorem putCpuByte_wf {p : Nat} (v : Byte) {s : State} (hp : p < 0x10000) (h : s.mem.wf = true) :
    (putCpuByte p v s).mem.wf = true := by
  simp only [Mems.wf, Bool.and_eq_true] at h ⊢
  exact ⟨⟨⟨Memory.wf_put _ v hp h.1.1.1, h.1.1.2⟩, h.1.2⟩, h.2⟩

theorem putPpuByte_wf {p : Nat} (v : Byte) {s : State} (hp : p < 0x4000) (h : s.mem.wf = true) :
    (putPpuByte p v s).mem.wf = true := by
  simp only [Mems.wf, Bool.and_eq_true] at h ⊢
  exact ⟨⟨⟨h.1.1.1, Memory.wf_put _ v hp h.1.1.2⟩, h.1.2⟩, h.2⟩

theorem putNtByte_wf {p : Nat} (v : Byte) {s : State} (hp : p < 0x1000) (h : s.mem.wf = true) :
    (putNtByte p v s).mem.wf = true := by
  simp only [Mems.wf, Bool.and_eq_true] at h ⊢
  exact ⟨⟨⟨h.1.1.1, h.1.1.2⟩, Memory.wf_put _ v hp h.1.2⟩, h.2⟩

theorem putOamByte_wf {p : Nat} (v : Byte) {s : State} (hp : p < 0x100) (h : s.mem.wf = true) :
    (putOamByte p v s).mem.wf = true := by
  simp only [Mems.wf, Bool.and_eq_true] at h ⊢
  exact ⟨⟨⟨h.1.1.1, h.1.1.2⟩, h.1.2⟩, Memory.wf_put _ v hp h.2⟩

end Sys2Proof.Machine
end

