-- ==== Sys2Proof/Laws/Bus.lean ====
section
/-!
SUPPORT. What a bus access can do: which groups of the state a read or a write leaves alone, the access of a plain address, and the
canonical form of the memories.
-/
namespace Sys2Proof.Machine

/-! ### The devices -/

@[simp] theorem ppuWrite_cpu (a : Word) (v : Byte) (s : State) : (ppuWrite a v s).cpu = s.cpu := by
  simp only [ppuWrite]; split <;> rfl
@[simp] theorem ppuWrite_ppu (a : Word) (v : Byte) (s : State) : (ppuWrite a v s).ppu = s.ppu := by
  simp only [ppuWrite]; split <;> rfl
@[simp] theorem ppuWrite_bus (a : Word) (v : Byte) (s : State) : (ppuWrite a v s).bus = s.bus := by
  simp only [ppuWrite]; split <;> rfl
@[simp] theorem ppuWrite_pad (a : Word) (v : Byte) (s : State) : (ppuWrite a v s).pad = s.pad := by
  simp only [ppuWrite]; split <;> rfl
@[simp] theorem ppuWrite_driver (a : Word) (v : Byte) (s : State) : (ppuWrite a v s).driver = s.driver := by
  simp only [ppuWrite]; split <;> rfl
@[simp] theorem ppuWrite_diag (a : Word) (v : Byte) (s : State) : (ppuWrite a v s).diag = s.diag := by
  simp only [ppuWrite]; split <;> rfl
@[simp] theorem ppuWrite_host (a : Word) (v : Byte) (s : State) : (ppuWrite a v s).host = s.host := by
  simp only [ppuWrite]; split <;> rfl
@[simp] theorem ppuWrite_params (a : Word) (v : Byte) (s : State) : (ppuWrite a v s).params = s.params := by
  simp only [ppuWrite]; split <;> rfl
@[simp] theorem ppuWrite_cpuByte (a : Word) (v : Byte) (q : Nat) (s : State) : (ppuWrite a v s).cpuByte q = s.cpuByte q := by
  simp only [ppuWrite]; split <;> simp
@[simp] theorem ppuWrite_oamByte (a : Word) (v : Byte) (q : Nat) (s : State) : (ppuWrite a v s).oamByte q = s.oamByte q := by
  simp only [ppuWrite]; split <;> simp

/-- One sample of the buttons: the mask held, or a fresh free value; only the draw counter may move. -/
theorem sampleButtons_cases (s : State) :
    (∃ m, s.host.buttons = some m ∧ sampleButtons s = (m, s)) ∨
    (s.host.buttons = none ∧ sampleButtons s =
      (Config.hostButtons s.host.draws, s.setHost { s.host with draws := s.host.draws + 1 })) := by
  unfold sampleButtons
  cases h : s.host.buttons with
  | some m => exact .inl ⟨m, rfl, rfl⟩
  | none => exact .inr ⟨rfl, rfl⟩

/-- A device read: what its state may become. The PPU's read changes PPU registers only, the controller's its port and the draw
counter only. -/
def DeviceStep (s t : State) : Prop :=
  t = ((s.setPpu { s.ppu with status := t.ppu.status, w := t.ppu.w, intlAddr := t.ppu.intlAddr, buffer := t.ppu.buffer }).setPad
    t.pad).setHost { s.host with draws := t.host.draws }

theorem DeviceStep.refl (s : State) : DeviceStep s s := rfl

theorem readStatus_deviceStep (s : State) : DeviceStep s (readStatus s).2 := rfl

theorem readData_deviceStep (s : State) : DeviceStep s (readData s).2 := by
  simp only [readData]
  split <;> rfl

theorem readPad_deviceStep (s : State) : DeviceStep s (readPad s).2 := by
  by_cases hs : s.pad.strobe
  · obtain ⟨m, -, h⟩ | ⟨-, h⟩ := sampleButtons_cases s <;> simp only [readPad, h, hs] <;> rfl
  · by_cases hc : s.pad.cursor < 8 <;> simp only [readPad, hs, hc] <;> rfl

theorem ppuTryRead_deviceStep {p : Word} {s : State} {r : Byte × State} (h : ppuTryRead p s = some r) : DeviceStep s r.2 := by
  simp only [ppuTryRead] at h
  split at h
  · cases h; rfl
  · split at h
    · cases h; rfl
    · split at h
      · cases h; exact readStatus_deviceStep s
      · split at h
        · cases h; rfl
        · split at h
          · cases h; exact readData_deviceStep s
          · cases h

theorem padTryRead_deviceStep {p : Word} {s : State} {r : Byte × State} (h : padTryRead p s = some r) : DeviceStep s r.2 := by
  simp only [padTryRead] at h
  split at h
  · cases h; exact readPad_deviceStep s
  · cases h

/-! ### The bus read -/

/-- Everything a bus read can do: the log entry, then at most one device's own read. -/
theorem cpuRead_deviceStep (a : Word) (s : State) : DeviceStep (logRead (cpuMirror a) s) (cpuRead a s).2 := by
  simp only [cpuRead, readHooks, askReadHooks]
  cases h1 : ppuTryRead (cpuMirror a) (logRead (cpuMirror a) s) with
  | some r => exact ppuTryRead_deviceStep h1
  | none =>
    cases h2 : padTryRead (cpuMirror a) (logRead (cpuMirror a) s) with
    | some r => exact padTryRead_deviceStep h2
    | none => exact DeviceStep.refl _

@[simp] theorem cpuRead_cpu (a : Word) (s : State) : (cpuRead a s).2.cpu = s.cpu := by
  rw [cpuRead_deviceStep a s]; rfl
@[simp] theorem cpuRead_mem (a : Word) (s : State) : (cpuRead a s).2.mem = s.mem := by
  rw [cpuRead_deviceStep a s]; rfl
@[simp] theorem cpuRead_bus (a : Word) (s : State) : (cpuRead a s).2.bus = { s.bus with lastRead := some (cpuMirror a) } := by
  rw [cpuRead_deviceStep a s]; rfl
@[simp] theorem cpuRead_driver (a : Word) (s : State) : (cpuRead a s).2.driver = s.driver := by
  rw [cpuRead_deviceStep a s]; rfl
@[simp] theorem cpuRead_diag (a : Word) (s : State) : (cpuRead a s).2.diag = s.diag := by
  rw [cpuRead_deviceStep a s]; rfl
@[simp] theorem cpuRead_params (a : Word) (s : State) : (cpuRead a s).2.params = s.params := by
  rw [cpuRead_deviceStep a s]; rfl
@[simp] theorem cpuRead_cpuByte (a : Word) (s : State) (q : Nat) : (cpuRead a s).2.cpuByte q = s.cpuByte q := by
  simp [State.cpuByte]
@[simp] theorem cpuRead_ppuByte (a : Word) (s : State) (q : Nat) : (cpuRead a s).2.ppuByte q = s.ppuByte q := by
  simp [State.ppuByte]
@[simp] theorem cpuRead_ntByte (a : Word) (s : State) (q : Nat) : (cpuRead a s).2.ntByte q = s.ntByte q := by
  simp [State.ntByte]
@[simp] theorem cpuRead_oamByte (a : Word) (s : State) (q : Nat) : (cpuRead a s).2.oamByte q = s.oamByte q := by
  simp [State.oamByte]

/-- The PPU registers a read can change are STATUS, the toggle, the address latch and the buffer. -/
theorem cpuRead_ppu (a : Word) (s : State) : (cpuRead a s).2.ppu = { s.ppu with
    status := (cpuRead a s).2.ppu.status, w := (cpuRead a s).2.ppu.w, intlAddr := (cpuRead a s).2.ppu.intlAddr,
    buffer := (cpuRead a s).2.ppu.buffer } :=
  congrArg State.ppu (cpuRead_deviceStep a s)

/-- A read of an address no hook answers: the stored byte and the log entry. -/
theorem cpuRead_plain {a : Word} (s : State) (h : readHooked (cpuMirror a) = false) :
    cpuRead a s = (s.cpuByte (cpuMirror a).toNat, logRead (cpuMirror a) s) := by
  simp only [readHooked, Bool.or_eq_false_iff, beq_eq_false_iff_ne, ne_eq] at h
  obtain ⟨⟨⟨⟨⟨h0, h1⟩, h2⟩, h4⟩, h7⟩, h16⟩ := h
  simp [cpuRead, readHooks, askReadHooks, ppuTryRead, padTryRead, h0, h1, h2, h4, h7, h16, logRead]

/-- A controller read changes its port and the draw counter only. -/
theorem readPad_eq (s : State) :
    (readPad s).2 = (s.setPad (readPad s).2.pad).setHost { s.host with draws := (readPad s).2.host.draws } := by
  by_cases hs : s.pad.strobe
  · obtain ⟨m, -, h⟩ | ⟨-, h⟩ := sampleButtons_cases s <;> simp only [readPad, h, hs] <;> rfl
  · by_cases hc : s.pad.cursor < 8 <;> simp only [readPad, hs, hc] <;> rfl

/-- Everything a bus read can do, as one case per register. -/
theorem cpuRead_cases (a : Word) (s : State) :
    let p := cpuMirror a
    let t := logRead p s
    (p = 0x2000#16 ∧ cpuRead a s = (s.ppu.ctrl, t)) ∨
    (p = 0x2001#16 ∧ cpuRead a s = (s.ppu.mask, t)) ∨
    (p = 0x2002#16 ∧ cpuRead a s = readStatus t) ∨
    (p = 0x2004#16 ∧ cpuRead a s = (s.oamByte s.ppu.oamaddr.toNat, t)) ∨
    (p = 0x2007#16 ∧ cpuRead a s = readData t) ∨
    (p = 0x4016#16 ∧ cpuRead a s = readPad t) ∨
    (readHooked p = false ∧ cpuRead a s = (s.cpuByte p.toNat, t)) := by
  intro p t
  by_cases h : readHooked p = false
  · exact .inr (.inr (.inr (.inr (.inr (.inr ⟨h, cpuRead_plain s h⟩)))))
  · simp only [Bool.not_eq_false, readHooked, Bool.or_eq_true, beq_iff_eq] at h
    obtain ((((h | h) | h) | h) | h) | h := h <;>
      simp [cpuRead, readHooks, askReadHooks, ppuTryRead, padTryRead, p, t, h, logRead]

/-! ### OAM-DMA and the bus write -/

@[simp] theorem oamDmaFrom_cpu (v : Byte) (n i : Nat) (s : State) : (oamDmaFrom v n i s).cpu = s.cpu := by
  induction n generalizing i s with
  | zero => rfl
  | succ n ih => rw [oamDmaFrom, ih, putOamByte_eq]; simp

@[simp] theorem oamDmaFrom_driver (v : Byte) (n i : Nat) (s : State) : (oamDmaFrom v n i s).driver = s.driver := by
  induction n generalizing i s with
  | zero => rfl
  | succ n ih => rw [oamDmaFrom, ih, putOamByte_eq]; simp

@[simp] theorem oamDmaFrom_diag (v : Byte) (n i : Nat) (s : State) : (oamDmaFrom v n i s).diag = s.diag := by
  induction n generalizing i s with
  | zero => rfl
  | succ n ih => rw [oamDmaFrom, ih, putOamByte_eq]; simp

@[simp] theorem oamDmaFrom_params (v : Byte) (n i : Nat) (s : State) : (oamDmaFrom v n i s).params = s.params := by
  induction n generalizing i s with
  | zero => rfl
  | succ n ih => rw [oamDmaFrom, ih, putOamByte_eq]; simp

@[simp] theorem oamDmaFrom_cpuByte (v : Byte) (n i : Nat) (s : State) (q : Nat) :
    (oamDmaFrom v n i s).cpuByte q = s.cpuByte q := by
  induction n generalizing i s with
  | zero => rfl
  | succ n ih => rw [oamDmaFrom, ih]; simp

/-- The memories stay canonical through a DMA that ends inside OAM. -/
theorem oamDmaFrom_wf (v : Byte) (n i : Nat) (s : State) (hi : i + n ≤ 0x100) (h : s.mem.wf = true) :
    (oamDmaFrom v n i s).mem.wf = true := by
  induction n generalizing i s with
  | zero => exact h
  | succ n ih =>
    rw [oamDmaFrom]
    exact ih (i + 1) _ (by omega) (putOamByte_wf _ (by omega) (by simpa using h))

/-- One sampled write of the controller port changes the port and the draw counter only. -/
theorem writePad_eq (v : Byte) (s : State) :
    writePad v s = (s.setPad (writePad v s).pad).setHost { s.host with draws := (writePad v s).host.draws } := by
  obtain ⟨m, -, h⟩ | ⟨-, h⟩ := sampleButtons_cases s <;> simp only [writePad, h] <;> split <;> first | rfl | (split <;> rfl)

theorem writeScroll_eq_setPpu (v : Byte) (s : State) : writeScroll v s = s.setPpu (writeScroll v s).ppu := by
  simp only [writeScroll]; split <;> rfl

theorem writeAddr_eq_setPpu (v : Byte) (s : State) : writeAddr v s = s.setPpu (writeAddr v s).ppu := by
  simp only [writeAddr]; split <;> rfl

/-- A write no hook claims: the log entry and the stored byte. -/
theorem cpuWrite_plain {a : Word} (v : Byte) (s : State) (h : writeHooked (cpuMirror a) = false) :
    cpuWrite a v s = putCpuByte (cpuMirror a).toNat v (logWrite (cpuMirror a) s) := by
  simp only [writeHooked, Bool.or_eq_false_iff, beq_eq_false_iff_ne, ne_eq] at h
  obtain ⟨⟨⟨⟨⟨⟨⟨⟨⟨h0, h1⟩, h2⟩, h3⟩, h4⟩, h5⟩, h6⟩, h7⟩, h14⟩, h16⟩ := h
  simp [cpuWrite, writeHooks, askWriteHooks, ppuTryWrite, padTryWrite, h0, h1, h2, h3, h4, h5, h6, h7, h14, h16]

/-- Everything a write hook can do, as one case per register. -/
theorem cpuWrite_cases (a : Word) (v : Byte) (s : State) :
    let p := cpuMirror a
    let t := logWrite p s
    (p = 0x2000#16 ∧ cpuWrite a v s = writeCtrl v t) ∨
    (p = 0x2001#16 ∧ cpuWrite a v s = writeMask v t) ∨
    (p = 0x2002#16 ∧ cpuWrite a v s = t) ∨
    (p = 0x2003#16 ∧ cpuWrite a v s = writeOamaddr v t) ∨
    (p = 0x2004#16 ∧ cpuWrite a v s = writeOamdata v t) ∨
    (p = 0x2005#16 ∧ cpuWrite a v s = writeScroll v t) ∨
    (p = 0x2006#16 ∧ cpuWrite a v s = writeAddr v t) ∨
    (p = 0x2007#16 ∧ cpuWrite a v s = writeData v t) ∨
    (p = 0x4014#16 ∧ cpuWrite a v s = oamDma v t) ∨
    (p = 0x4016#16 ∧ cpuWrite a v s = writePad v t) ∨
    (writeHooked p = false ∧ cpuWrite a v s = putCpuByte p.toNat v t) := by
  intro p t
  by_cases h : writeHooked p = false
  · exact .inr (.inr (.inr (.inr (.inr (.inr (.inr (.inr (.inr (.inr ⟨h, cpuWrite_plain v s h⟩)))))))))
  · simp only [Bool.not_eq_false, writeHooked, Bool.or_eq_true, beq_iff_eq] at h
    obtain ((((((((h | h) | h) | h) | h) | h) | h) | h) | h) | h := h <;>
      simp [cpuWrite, writeHooks, askWriteHooks, ppuTryWrite, padTryWrite, p, t, h, writeStatus]

theorem cpuWrite_groups (a : Word) (v : Byte) (s : State) :
    (cpuWrite a v s).cpu = s.cpu ∧ (cpuWrite a v s).driver = s.driver ∧ (cpuWrite a v s).diag = s.diag ∧
    (cpuWrite a v s).params = s.params := by
  obtain ⟨-, h⟩ | ⟨-, h⟩ | ⟨-, h⟩ | ⟨-, h⟩ | ⟨-, h⟩ | ⟨-, h⟩ | ⟨-, h⟩ | ⟨-, h⟩ | ⟨-, h⟩ | ⟨-, h⟩ | ⟨-, h⟩ :=
    cpuWrite_cases a v s
  all_goals rw [h]
  · exact ⟨rfl, rfl, rfl, rfl⟩
  · exact ⟨rfl, rfl, rfl, rfl⟩
  · exact ⟨rfl, rfl, rfl, rfl⟩
  · exact ⟨rfl, rfl, rfl, rfl⟩
  · exact ⟨rfl, rfl, rfl, rfl⟩
  · rw [writeScroll_eq_setPpu]; exact ⟨rfl, rfl, rfl, rfl⟩
  · rw [writeAddr_eq_setPpu]; exact ⟨rfl, rfl, rfl, rfl⟩
  · simp [writeData, advanceIntlAddr, logWrite]
  · simp only [oamDma, oamDmaFrom_cpu, oamDmaFrom_driver, oamDmaFrom_diag, oamDmaFrom_params]; exact ⟨rfl, rfl, rfl, rfl⟩
  · rw [writePad_eq]; exact ⟨rfl, rfl, rfl, rfl⟩
  · exact ⟨rfl, rfl, rfl, rfl⟩

@[simp] theorem cpuWrite_cpu (a : Word) (v : Byte) (s : State) : (cpuWrite a v s).cpu = s.cpu := (cpuWrite_groups a v s).1
@[simp] theorem cpuWrite_driver (a : Word) (v : Byte) (s : State) : (cpuWrite a v s).driver = s.driver :=
  (cpuWrite_groups a v s).2.1
@[simp] theorem cpuWrite_diag (a : Word) (v : Byte) (s : State) : (cpuWrite a v s).diag = s.diag := (cpuWrite_groups a v s).2.2.1
@[simp] theorem cpuWrite_params (a : Word) (v : Byte) (s : State) : (cpuWrite a v s).params = s.params :=
  (cpuWrite_groups a v s).2.2.2

/-- Every PPU slot lies inside its array. -/
theorem ppuSlot_inside (m : Mirroring) (a : Word) :
    match ppuSlot m a with
    | .ppu c => c < 0x4000
    | .nt n => n < 0x1000 := by
  have hf : ∀ c : Word, 0x2000#16 ≤ c ∧ c ≤ 0x2FFF#16 → (ntFold m c).toNat < 0x1000 := by
    intro c hc
    have h1 : 0x2000 ≤ c.toNat := hc.1
    have h2 : c.toNat ≤ 0x2FFF := hc.2
    cases m with
    | vertical =>
      simp only [ntFold, BitVec.toNat_and]
      exact Nat.lt_of_le_of_lt Nat.and_le_right (by decide)
    | horizontal =>
      simp only [ntFold, BitVec.toNat_or]
      refine Nat.or_lt_two_pow (n := 12) ?_ ?_
      · have : (c - 0x2000#16).toNat = c.toNat - 0x2000 := by
          rw [BitVec.toNat_sub_of_le (by exact hc.1)]; rfl
        simp only [BitVec.toNat_shiftLeft, BitVec.toNat_ushiftRight, this, Nat.shiftRight_eq_div_pow, Nat.shiftLeft_eq]
        omega
      · simp only [BitVec.toNat_and]
        exact Nat.lt_of_le_of_lt Nat.and_le_right (by decide)
  have hm : (ppuMirror m a).toNat < 0x4000 := by
    have h0 : (a &&& 0x3FFF#16).toNat ≤ 0x3FFF := by simp only [BitVec.toNat_and]; exact Nat.and_le_right
    have hnt : ∀ c : Word, 0x2000#16 ≤ c ∧ c ≤ 0x2FFF#16 → (ntCanonical m c).toNat < 0x4000 := by
      intro c hc
      have hfc := hf c hc
      cases m with
      | vertical => simp only [ntCanonical, BitVec.toNat_add] at hfc ⊢; simp at hfc ⊢; omega
      | horizontal =>
        have hand : (c &&& 0x3FF#16).toNat ≤ 0x3FF := by simp only [BitVec.toNat_and]; exact Nat.and_le_right
        simp only [ntCanonical, BitVec.toNat_add, BitVec.toNat_mul, BitVec.toNat_ushiftRight, Nat.shiftRight_eq_div_pow]
        generalize (c &&& 0x3FF#16).toNat = e at hand
        generalize (ntFold .horizontal c).toNat = f at hfc
        simp only [BitVec.toNat_ofNat]
        omega
    unfold ppuMirror
    generalize a &&& 0x3FFF#16 = b at h0
    dsimp only
    have h1 : (if 0x3000#16 ≤ b ∧ b ≤ 0x3EFF#16 then b - 0x1000#16 else b).toNat ≤ 0x3FFF := by
      split
      · rename_i h
        rw [BitVec.toNat_sub_of_le (by have := h.1; simp [BitVec.le_def] at this ⊢; omega)]
        omega
      · exact h0
    generalize (if 0x3000#16 ≤ b ∧ b ≤ 0x3EFF#16 then b - 0x1000#16 else b) = d at h1
    have h2 : (if 0x3F20#16 ≤ d ∧ d ≤ 0x3FFF#16 then 0x3F00#16 + (d &&& 0x1F#16) else d).toNat ≤ 0x3FFF := by
      split
      · have : (d &&& 0x1F#16).toNat ≤ 0x1F := by simp only [BitVec.toNat_and]; exact Nat.and_le_right
        simp only [BitVec.toNat_add]
        simp at this ⊢
        omega
      · exact h1
    generalize (if 0x3F20#16 ≤ d ∧ d ≤ 0x3FFF#16 then 0x3F00#16 + (d &&& 0x1F#16) else d) = e at h2
    split
    · rename_i h; exact hnt e h
    · omega
  by_cases h : 0x2000#16 ≤ ppuMirror m a ∧ ppuMirror m a ≤ 0x2FFF#16
  · simp only [ppuSlot, if_pos h]; exact hf _ h
  · simp only [ppuSlot, if_neg h]; exact hm

/-- A PPU-space write keeps the canonical forms. -/
theorem ppuWrite_wf (a : Word) (v : Byte) {s : State} (h : s.mem.wf = true) : (ppuWrite a v s).mem.wf = true := by
  have hi := ppuSlot_inside s.params.mirroring a
  unfold ppuWrite
  split <;> rename_i heq <;> rw [heq] at hi
  · exact putPpuByte_wf v hi h
  · exact putNtByte_wf v hi h

/-- A bus write keeps the canonical forms. -/
theorem cpuWrite_wf (a : Word) (v : Byte) {s : State} (hs : s.mem.wf = true) : (cpuWrite a v s).mem.wf = true := by
  obtain ⟨-, h⟩ | ⟨-, h⟩ | ⟨-, h⟩ | ⟨-, h⟩ | ⟨-, h⟩ | ⟨-, h⟩ | ⟨-, h⟩ | ⟨-, h⟩ | ⟨-, h⟩ | ⟨-, h⟩ | ⟨-, h⟩ :=
    cpuWrite_cases a v s
  all_goals rw [h]
  · exact hs
  · exact hs
  · exact hs
  · exact hs
  · exact putOamByte_wf v (BitVec.isLt _) hs
  · rw [writeScroll_eq_setPpu]; exact hs
  · rw [writeAddr_eq_setPpu]; exact hs
  · exact ppuWrite_wf _ v hs
  · exact oamDmaFrom_wf v 256 0 _ (by decide) hs
  · rw [writePad_eq]; exact hs
  · exact putCpuByte_wf v (BitVec.isLt _) hs

/-! ### What no access touches -/

/-- The PPU's timing fields: its counter, the interrupt request, the frame and the frame count. -/
def SameTiming (u v : Ppu) : Prop :=
  v.cycle = u.cycle ∧ v.nmiRequest = u.nmiRequest ∧ v.frame = u.frame ∧ v.frameCount = u.frameCount

theorem SameTiming.trans {u v x : Ppu} (h : SameTiming u v) (k : SameTiming v x) : SameTiming u x :=
  ⟨k.1.trans h.1, k.2.1.trans h.2.1, k.2.2.1.trans h.2.2.1, k.2.2.2.trans h.2.2.2⟩

/-- STATUS after an access: as before, or with VBlank cleared. -/
def StatusStep (u v : Ppu) : Prop := v.status = u.status ∨ v.status = u.status &&& 0x7F#8

theorem StatusStep.trans {u v x : Ppu} (h : StatusStep u v) (k : StatusStep v x) : StatusStep u x := by
  unfold StatusStep at *
  obtain h | h := h <;> obtain k | k := k <;> rw [k, h] <;> simp [BitVec.and_assoc]

theorem cpuRead_timing (a : Word) (s : State) : SameTiming s.ppu (cpuRead a s).2.ppu := by
  rw [cpuRead_ppu a s]; exact ⟨rfl, rfl, rfl, rfl⟩

theorem cpuRead_status (a : Word) (s : State) : StatusStep s.ppu (cpuRead a s).2.ppu := by
  obtain ⟨-, h⟩ | ⟨-, h⟩ | ⟨-, h⟩ | ⟨-, h⟩ | ⟨-, h⟩ | ⟨-, h⟩ | ⟨-, h⟩ := cpuRead_cases a s
  all_goals rw [h]
  · exact .inl rfl
  · exact .inl rfl
  · exact .inr rfl
  · exact .inl rfl
  · simp only [readData]; split <;> exact .inl rfl
  · rw [readPad_eq]; exact .inl rfl
  · exact .inl rfl

/-- A sample moves the draw counter only, and upwards. -/
theorem sampleButtons_host (s : State) :
    (sampleButtons s).2 = s.setHost { s.host with draws := (sampleButtons s).2.host.draws } ∧
    s.host.draws ≤ (sampleButtons s).2.host.draws := by
  obtain ⟨m, -, h⟩ | ⟨-, h⟩ := sampleButtons_cases s <;> rw [h]
  · exact ⟨rfl, Nat.le_refl _⟩
  · exact ⟨rfl, Nat.le_succ _⟩

/-- The host fields after an access: as before but for the draw counter, which only grows. -/
def HostStep (h k : HostInput) : Prop := k = { h with draws := k.draws } ∧ h.draws ≤ k.draws

theorem HostStep.refl (h : HostInput) : HostStep h h := ⟨rfl, Nat.le_refl _⟩

theorem HostStep.trans {h k l : HostInput} (a : HostStep h k) (b : HostStep k l) : HostStep h l :=
  ⟨by rw [b.1, a.1], Nat.le_trans a.2 b.2⟩

theorem readPad_host (s : State) : HostStep s.host (readPad s).2.host := by
  obtain ⟨h1, h2⟩ := sampleButtons_host s
  simp only [readPad]
  split
  · exact ⟨congrArg State.host h1, h2⟩
  · dsimp only; split <;> exact HostStep.refl _

theorem writePad_host (v : Byte) (s : State) : HostStep s.host (writePad v s).host := by
  obtain ⟨h1, h2⟩ := sampleButtons_host s
  simp only [writePad]
  split
  · exact ⟨congrArg State.host h1, h2⟩
  · split
    · exact ⟨congrArg State.host h1, h2⟩
    · exact HostStep.refl _

theorem cpuRead_host (a : Word) (s : State) : HostStep s.host (cpuRead a s).2.host := by
  obtain ⟨-, h⟩ | ⟨-, h⟩ | ⟨-, h⟩ | ⟨-, h⟩ | ⟨-, h⟩ | ⟨-, h⟩ | ⟨-, h⟩ := cpuRead_cases a s
  all_goals rw [h]
  · exact HostStep.refl _
  · exact HostStep.refl _
  · exact HostStep.refl _
  · exact HostStep.refl _
  · simp only [readData]; split <;> exact HostStep.refl _
  · exact readPad_host _
  · exact HostStep.refl _

/-- The controller's cursor stays in 0 to 8. -/
theorem cpuRead_cursor (a : Word) (s : State) (hc : s.pad.cursor ≤ 8) : (cpuRead a s).2.pad.cursor ≤ 8 := by
  obtain ⟨-, h⟩ | ⟨-, h⟩ | ⟨-, h⟩ | ⟨-, h⟩ | ⟨-, h⟩ | ⟨-, h⟩ | ⟨-, h⟩ := cpuRead_cases a s
  all_goals rw [h]
  · exact hc
  · exact hc
  · exact hc
  · exact hc
  · simp only [readData]; split <;> exact hc
  · simp only [readPad]
    split
    · exact Nat.zero_le 8
    · dsimp only; split
      · rename_i h; exact h
      · exact hc
  · exact hc

/-- A property of the state that every bus read keeps and that no OAM byte is part of holds through OAM-DMA. -/
theorem oamDmaFrom_induct {P : State → Prop} (hr : ∀ a s, P s → P (cpuRead a s).2) (hp : ∀ i v s, P s → P (putOamByte i v s))
    (page : Byte) (n i : Nat) (s : State) (h : P s) : P (oamDmaFrom page n i s) := by
  induction n generalizing i s with
  | zero => exact h
  | succ n ih => exact ih _ _ (hp _ _ _ (hr _ _ h))

theorem cpuWrite_timing (a : Word) (v : Byte) (s : State) : SameTiming s.ppu (cpuWrite a v s).ppu := by
  obtain ⟨-, h⟩ | ⟨-, h⟩ | ⟨-, h⟩ | ⟨-, h⟩ | ⟨-, h⟩ | ⟨-, h⟩ | ⟨-, h⟩ | ⟨-, h⟩ | ⟨-, h⟩ | ⟨-, h⟩ | ⟨-, h⟩ :=
    cpuWrite_cases a v s
  all_goals rw [h]
  · exact ⟨rfl, rfl, rfl, rfl⟩
  · exact ⟨rfl, rfl, rfl, rfl⟩
  · exact ⟨rfl, rfl, rfl, rfl⟩
  · exact ⟨rfl, rfl, rfl, rfl⟩
  · exact ⟨rfl, rfl, rfl, rfl⟩
  · simp only [writeScroll]; split <;> exact ⟨rfl, rfl, rfl, rfl⟩
  · simp only [writeAddr]; split <;> exact ⟨rfl, rfl, rfl, rfl⟩
  · simp only [writeData, advanceIntlAddr, State.setPpu_ppu, ppuWrite_ppu]; exact ⟨rfl, rfl, rfl, rfl⟩
  · exact oamDmaFrom_induct (P := fun t => SameTiming s.ppu t.ppu) (fun a t h => h.trans (cpuRead_timing a t))
      (fun _ _ _ h => h) v 256 0 _ ⟨rfl, rfl, rfl, rfl⟩
  · rw [writePad_eq]; exact ⟨rfl, rfl, rfl, rfl⟩
  · exact ⟨rfl, rfl, rfl, rfl⟩

theorem cpuWrite_status (a : Word) (v : Byte) (s : State) : StatusStep s.ppu (cpuWrite a v s).ppu := by
  obtain ⟨-, h⟩ | ⟨-, h⟩ | ⟨-, h⟩ | ⟨-, h⟩ | ⟨-, h⟩ | ⟨-, h⟩ | ⟨-, h⟩ | ⟨-, h⟩ | ⟨-, h⟩ | ⟨-, h⟩ | ⟨-, h⟩ :=
    cpuWrite_cases a v s
  all_goals rw [h]
  · exact .inl rfl
  · exact .inl rfl
  · exact .inl rfl
  · exact .inl rfl
  · exact .inl rfl
  · simp only [writeScroll]; split <;> exact .inl rfl
  · simp only [writeAddr]; split <;> exact .inl rfl
  · simp only [writeData, advanceIntlAddr, State.setPpu_ppu, ppuWrite_ppu]; exact .inl rfl
  · exact oamDmaFrom_induct (P := fun t => StatusStep s.ppu t.ppu) (fun a t h => h.trans (cpuRead_status a t))
      (fun _ _ _ h => h) v 256 0 _ (.inl rfl)
  · rw [writePad_eq]; exact .inl rfl
  · exact .inl rfl

theorem cpuWrite_host (a : Word) (v : Byte) (s : State) : HostStep s.host (cpuWrite a v s).host := by
  obtain ⟨-, h⟩ | ⟨-, h⟩ | ⟨-, h⟩ | ⟨-, h⟩ | ⟨-, h⟩ | ⟨-, h⟩ | ⟨-, h⟩ | ⟨-, h⟩ | ⟨-, h⟩ | ⟨-, h⟩ | ⟨-, h⟩ :=
    cpuWrite_cases a v s
  all_goals rw [h]
  · exact HostStep.refl _
  · exact HostStep.refl _
  · exact HostStep.refl _
  · exact HostStep.refl _
  · exact HostStep.refl _
  · rw [writeScroll_eq_setPpu]; exact HostStep.refl _
  · rw [writeAddr_eq_setPpu]; exact HostStep.refl _
  · simp only [writeData, advanceIntlAddr, State.setPpu_host, ppuWrite_host]; exact HostStep.refl _
  · exact oamDmaFrom_induct (P := fun t => HostStep s.host t.host) (fun a t h => h.trans (cpuRead_host a t))
      (fun _ _ _ h => h) v 256 0 _ (HostStep.refl _)
  · exact writePad_host _ _
  · exact HostStep.refl _

theorem cpuWrite_cursor (a : Word) (v : Byte) (s : State) (hc : s.pad.cursor ≤ 8) : (cpuWrite a v s).pad.cursor ≤ 8 := by
  obtain ⟨-, h⟩ | ⟨-, h⟩ | ⟨-, h⟩ | ⟨-, h⟩ | ⟨-, h⟩ | ⟨-, h⟩ | ⟨-, h⟩ | ⟨-, h⟩ | ⟨-, h⟩ | ⟨-, h⟩ | ⟨-, h⟩ :=
    cpuWrite_cases a v s
  all_goals rw [h]
  · exact hc
  · exact hc
  · exact hc
  · exact hc
  · exact hc
  · rw [writeScroll_eq_setPpu]; exact hc
  · rw [writeAddr_eq_setPpu]; exact hc
  · simp only [writeData, advanceIntlAddr, State.setPpu_pad, ppuWrite_pad]; exact hc
  · exact oamDmaFrom_induct (P := fun t => t.pad.cursor ≤ 8) (fun a t h => cpuRead_cursor a t h) (fun _ _ _ h => h) v 256 0 _ hc
  · simp only [writePad]
    split
    · exact Nat.zero_le 8
    · split
      · rw [(sampleButtons_host _).1]; exact hc
      · exact hc
  · exact hc

end Sys2Proof.Machine
end

