-- ==== Sys2Proof/Laws/Flags.lean ====
section
/-!
SUPPORT. Each flag after each flag write, and what the whole-byte writes of P store.
-/
namespace Sys2Proof.Machine

/-- A bit of a byte after `setBit`. -/
theorem setBit_getLsbD (n k : Nat) (b : Bool) (p : Byte) (hn : n < 8) :
    (setBit n b p).getLsbD k = if k = n then b else p.getLsbD k := by
  by_cases hk : k = n
  · subst hk
    cases b <;> simp [setBit, hn]
  · rw [if_neg hk]
    have h1 : k < 8 → n ≤ k → k - n ≠ 0 := by omega
    cases b
    · simp only [setBit, Bool.false_eq_true, if_false, BitVec.getLsbD_and, BitVec.getLsbD_not, BitVec.getLsbD_shiftLeft,
        BitVec.getLsbD_one]
      by_cases h8 : k < 8
      · by_cases h : k < n
        · simp [h8, h]
        · simp [h8, h, h1 h8 (by omega)]
      · simp [h8, BitVec.getLsbD_of_ge p k (by omega)]
    · simp only [setBit, if_true, BitVec.getLsbD_or, BitVec.getLsbD_shiftLeft, BitVec.getLsbD_one]
      by_cases h8 : k < 8
      · by_cases h : k < n
        · simp [h]
        · simp [h8, h, h1 h8 (by omega)]
      · simp [h8]

@[simp] theorem flagC_setC (b : Bool) (p : Byte) : flagC (setC b p) = b :=
  setBit_getLsbD 0 0 b p (by decide)
@[simp] theorem flagZ_setC (b : Bool) (p : Byte) : flagZ (setC b p) = flagZ p :=
  setBit_getLsbD 0 1 b p (by decide)
@[simp] theorem flagI_setC (b : Bool) (p : Byte) : flagI (setC b p) = flagI p :=
  setBit_getLsbD 0 2 b p (by decide)
@[simp] theorem flagD_setC (b : Bool) (p : Byte) : flagD (setC b p) = flagD p :=
  setBit_getLsbD 0 3 b p (by decide)
@[simp] theorem flagV_setC (b : Bool) (p : Byte) : flagV (setC b p) = flagV p :=
  setBit_getLsbD 0 6 b p (by decide)
@[simp] theorem flagN_setC (b : Bool) (p : Byte) : flagN (setC b p) = flagN p :=
  setBit_getLsbD 0 7 b p (by decide)
@[simp] theorem bit4_setC (b : Bool) (p : Byte) : (setC b p)[4] = p[4] :=
  setBit_getLsbD 0 4 b p (by decide)
@[simp] theorem bit5_setC (b : Bool) (p : Byte) : (setC b p)[5] = p[5] :=
  setBit_getLsbD 0 5 b p (by decide)

@[simp] theorem flagC_setZ (b : Bool) (p : Byte) : flagC (setZ b p) = flagC p :=
  setBit_getLsbD 1 0 b p (by decide)
@[simp] theorem flagZ_setZ (b : Bool) (p : Byte) : flagZ (setZ b p) = b :=
  setBit_getLsbD 1 1 b p (by decide)
@[simp] theorem flagI_setZ (b : Bool) (p : Byte) : flagI (setZ b p) = flagI p :=
  setBit_getLsbD 1 2 b p (by decide)
@[simp] theorem flagD_setZ (b : Bool) (p : Byte) : flagD (setZ b p) = flagD p :=
  setBit_getLsbD 1 3 b p (by decide)
@[simp] theorem flagV_setZ (b : Bool) (p : Byte) : flagV (setZ b p) = flagV p :=
  setBit_getLsbD 1 6 b p (by decide)
@[simp] theorem flagN_setZ (b : Bool) (p : Byte) : flagN (setZ b p) = flagN p :=
  setBit_getLsbD 1 7 b p (by decide)
@[simp] theorem bit4_setZ (b : Bool) (p : Byte) : (setZ b p)[4] = p[4] :=
  setBit_getLsbD 1 4 b p (by decide)
@[simp] theorem bit5_setZ (b : Bool) (p : Byte) : (setZ b p)[5] = p[5] :=
  setBit_getLsbD 1 5 b p (by decide)

@[simp] theorem flagC_setI (b : Bool) (p : Byte) : flagC (setI b p) = flagC p :=
  setBit_getLsbD 2 0 b p (by decide)
@[simp] theorem flagZ_setI (b : Bool) (p : Byte) : flagZ (setI b p) = flagZ p :=
  setBit_getLsbD 2 1 b p (by decide)
@[simp] theorem flagI_setI (b : Bool) (p : Byte) : flagI (setI b p) = b :=
  setBit_getLsbD 2 2 b p (by decide)
@[simp] theorem flagD_setI (b : Bool) (p : Byte) : flagD (setI b p) = flagD p :=
  setBit_getLsbD 2 3 b p (by decide)
@[simp] theorem flagV_setI (b : Bool) (p : Byte) : flagV (setI b p) = flagV p :=
  setBit_getLsbD 2 6 b p (by decide)
@[simp] theorem flagN_setI (b : Bool) (p : Byte) : flagN (setI b p) = flagN p :=
  setBit_getLsbD 2 7 b p (by decide)
@[simp] theorem bit4_setI (b : Bool) (p : Byte) : (setI b p)[4] = p[4] :=
  setBit_getLsbD 2 4 b p (by decide)
@[simp] theorem bit5_setI (b : Bool) (p : Byte) : (setI b p)[5] = p[5] :=
  setBit_getLsbD 2 5 b p (by decide)

@[simp] theorem flagC_setD (b : Bool) (p : Byte) : flagC (setD b p) = flagC p :=
  setBit_getLsbD 3 0 b p (by decide)
@[simp] theorem flagZ_setD (b : Bool) (p : Byte) : flagZ (setD b p) = flagZ p :=
  setBit_getLsbD 3 1 b p (by decide)
@[simp] theorem flagI_setD (b : Bool) (p : Byte) : flagI (setD b p) = flagI p :=
  setBit_getLsbD 3 2 b p (by decide)
@[simp] theorem flagD_setD (b : Bool) (p : Byte) : flagD (setD b p) = b :=
  setBit_getLsbD 3 3 b p (by decide)
@[simp] theorem flagV_setD (b : Bool) (p : Byte) : flagV (setD b p) = flagV p :=
  setBit_getLsbD 3 6 b p (by decide)
@[simp] theorem flagN_setD (b : Bool) (p : Byte) : flagN (setD b p) = flagN p :=
  setBit_getLsbD 3 7 b p (by decide)
@[simp] theorem bit4_setD (b : Bool) (p : Byte) : (setD b p)[4] = p[4] :=
  setBit_getLsbD 3 4 b p (by decide)
@[simp] theorem bit5_setD (b : Bool) (p : Byte) : (setD b p)[5] = p[5] :=
  setBit_getLsbD 3 5 b p (by decide)

@[simp] theorem flagC_setV (b : Bool) (p : Byte) : flagC (setV b p) = flagC p :=
  setBit_getLsbD 6 0 b p (by decide)
@[simp] theorem flagZ_setV (b : Bool) (p : Byte) : flagZ (setV b p) = flagZ p :=
  setBit_getLsbD 6 1 b p (by decide)
@[simp] theorem flagI_setV (b : Bool) (p : Byte) : flagI (setV b p) = flagI p :=
  setBit_getLsbD 6 2 b p (by decide)
@[simp] theorem flagD_setV (b : Bool) (p : Byte) : flagD (setV b p) = flagD p :=
  setBit_getLsbD 6 3 b p (by decide)
@[simp] theorem flagV_setV (b : Bool) (p : Byte) : flagV (setV b p) = b :=
  setBit_getLsbD 6 6 b p (by decide)
@[simp] theorem flagN_setV (b : Bool) (p : Byte) : flagN (setV b p) = flagN p :=
  setBit_getLsbD 6 7 b p (by decide)
@[simp] theorem bit4_setV (b : Bool) (p : Byte) : (setV b p)[4] = p[4] :=
  setBit_getLsbD 6 4 b p (by decide)
@[simp] theorem bit5_setV (b : Bool) (p : Byte) : (setV b p)[5] = p[5] :=
  setBit_getLsbD 6 5 b p (by decide)

@[simp] theorem flagC_setN (b : Bool) (p : Byte) : flagC (setN b p) = flagC p :=
  setBit_getLsbD 7 0 b p (by decide)
@[simp] theorem flagZ_setN (b : Bool) (p : Byte) : flagZ (setN b p) = flagZ p :=
  setBit_getLsbD 7 1 b p (by decide)
@[simp] theorem flagI_setN (b : Bool) (p : Byte) : flagI (setN b p) = flagI p :=
  setBit_getLsbD 7 2 b p (by decide)
@[simp] theorem flagD_setN (b : Bool) (p : Byte) : flagD (setN b p) = flagD p :=
  setBit_getLsbD 7 3 b p (by decide)
@[simp] theorem flagV_setN (b : Bool) (p : Byte) : flagV (setN b p) = flagV p :=
  setBit_getLsbD 7 6 b p (by decide)
@[simp] theorem flagN_setN (b : Bool) (p : Byte) : flagN (setN b p) = b :=
  setBit_getLsbD 7 7 b p (by decide)
@[simp] theorem bit4_setN (b : Bool) (p : Byte) : (setN b p)[4] = p[4] :=
  setBit_getLsbD 7 4 b p (by decide)
@[simp] theorem bit5_setN (b : Bool) (p : Byte) : (setN b p)[5] = p[5] :=
  setBit_getLsbD 7 5 b p (by decide)

@[simp] theorem flagC_setNZ (v p : Byte) : flagC (setNZ v p) = flagC p := by simp [setNZ]
@[simp] theorem flagZ_setNZ (v p : Byte) : flagZ (setNZ v p) = (v == 0#8) := by simp [setNZ]
@[simp] theorem flagI_setNZ (v p : Byte) : flagI (setNZ v p) = flagI p := by simp [setNZ]
@[simp] theorem flagD_setNZ (v p : Byte) : flagD (setNZ v p) = flagD p := by simp [setNZ]
@[simp] theorem flagV_setNZ (v p : Byte) : flagV (setNZ v p) = flagV p := by simp [setNZ]
@[simp] theorem flagN_setNZ (v p : Byte) : flagN (setNZ v p) = v.getLsbD 7 := by simp [setNZ]
@[simp] theorem bit4_setNZ (v p : Byte) : (setNZ v p)[4] = p[4] := by simp [setNZ]
@[simp] theorem bit5_setNZ (v p : Byte) : (setNZ v p)[5] = p[5] := by simp [setNZ]

@[simp] theorem flagC_storedStatus (v : Byte) : flagC (storedStatus v) = flagC v := by simp [flagC, storedStatus]
@[simp] theorem flagZ_storedStatus (v : Byte) : flagZ (storedStatus v) = flagZ v := by simp [flagZ, storedStatus]
@[simp] theorem flagI_storedStatus (v : Byte) : flagI (storedStatus v) = flagI v := by simp [flagI, storedStatus]
@[simp] theorem flagD_storedStatus (v : Byte) : flagD (storedStatus v) = flagD v := by simp [flagD, storedStatus]
@[simp] theorem flagV_storedStatus (v : Byte) : flagV (storedStatus v) = flagV v := by simp [flagV, storedStatus]
@[simp] theorem flagN_storedStatus (v : Byte) : flagN (storedStatus v) = flagN v := by simp [flagN, storedStatus]
@[simp] theorem flagC_pushedStatus (v : Byte) : flagC (pushedStatus v) = flagC v := by simp [flagC, pushedStatus]
@[simp] theorem flagZ_pushedStatus (v : Byte) : flagZ (pushedStatus v) = flagZ v := by simp [flagZ, pushedStatus]
@[simp] theorem flagI_pushedStatus (v : Byte) : flagI (pushedStatus v) = flagI v := by simp [flagI, pushedStatus]
@[simp] theorem flagD_pushedStatus (v : Byte) : flagD (pushedStatus v) = flagD v := by simp [flagD, pushedStatus]
@[simp] theorem flagV_pushedStatus (v : Byte) : flagV (pushedStatus v) = flagV v := by simp [flagV, pushedStatus]
@[simp] theorem flagN_pushedStatus (v : Byte) : flagN (pushedStatus v) = flagN v := by simp [flagN, pushedStatus]

/-- Two status bytes are equal when every flag and bits 4 and 5 are. -/
theorem status_ext {p q : Byte} (hn : flagN p = flagN q) (hv : flagV p = flagV q) (hd : flagD p = flagD q)
    (hi : flagI p = flagI q) (hz : flagZ p = flagZ q) (hc : flagC p = flagC q)
    (h4 : p.getLsbD 4 = q.getLsbD 4) (h5 : p.getLsbD 5 = q.getLsbD 5) : p = q := by
  apply BitVec.eq_of_getLsbD_eq
  intro i hlt
  match i, hlt with
  | 0, _ => exact hc
  | 1, _ => exact hz
  | 2, _ => exact hi
  | 3, _ => exact hd
  | 4, _ => exact h4
  | 5, _ => exact h5
  | 6, _ => exact hv
  | 7, _ => exact hn

end Sys2Proof.Machine
end

