-- ==== Sys2Proof/Laws/Ops.lean ====
section
/-!
SUPPORT. One lemma per shared operation: everything it can do, to be cited instead of unfolding it.
-/
namespace Sys2Proof.Machine

/-! ### Retiring -/

theorem retire_eq (pc : Word) (n : Nat) (s : State) :
    retire pc n s = s.setCpu { s.cpu with pc := pc, cycles := s.cpu.cycles + n } := rfl

@[simp] theorem retire_cpu (pc : Word) (n : Nat) (s : State) :
    (retire pc n s).cpu = { s.cpu with pc := pc, cycles := s.cpu.cycles + n } := rfl
@[simp] theorem retire_ppu (pc : Word) (n : Nat) (s : State) : (retire pc n s).ppu = s.ppu := rfl
@[simp] theorem retire_mem (pc : Word) (n : Nat) (s : State) : (retire pc n s).mem = s.mem := rfl
@[simp] theorem retire_bus (pc : Word) (n : Nat) (s : State) : (retire pc n s).bus = s.bus := rfl
@[simp] theorem retire_pad (pc : Word) (n : Nat) (s : State) : (retire pc n s).pad = s.pad := rfl
@[simp] theorem retire_driver (pc : Word) (n : Nat) (s : State) : (retire pc n s).driver = s.driver := rfl
@[simp] theorem retire_diag (pc : Word) (n : Nat) (s : State) : (retire pc n s).diag = s.diag := rfl
@[simp] theorem retire_host (pc : Word) (n : Nat) (s : State) : (retire pc n s).host = s.host := rfl
@[simp] theorem retire_params (pc : Word) (n : Nat) (s : State) : (retire pc n s).params = s.params := rfl
@[simp] theorem retire_cpuByte (pc : Word) (n : Nat) (s : State) (q : Nat) : (retire pc n s).cpuByte q = s.cpuByte q := rfl
@[simp] theorem retire_ppuByte (pc : Word) (n : Nat) (s : State) (q : Nat) : (retire pc n s).ppuByte q = s.ppuByte q := rfl
@[simp] theorem retire_ntByte (pc : Word) (n : Nat) (s : State) (q : Nat) : (retire pc n s).ntByte q = s.ntByte q := rfl
@[simp] theorem retire_oamByte (pc : Word) (n : Nat) (s : State) (q : Nat) : (retire pc n s).oamByte q = s.oamByte q := rfl

/-! ### Operands -/

@[simp] theorem cpuReadPair_cpu (l h : Word) (s : State) : (cpuReadPair l h s).2.cpu = s.cpu := by simp [cpuReadPair]
@[simp] theorem cpuReadPair_mem (l h : Word) (s : State) : (cpuReadPair l h s).2.mem = s.mem := by simp [cpuReadPair]
@[simp] theorem cpuReadPair_driver (l h : Word) (s : State) : (cpuReadPair l h s).2.driver = s.driver := by simp [cpuReadPair]
@[simp] theorem cpuReadPair_diag (l h : Word) (s : State) : (cpuReadPair l h s).2.diag = s.diag := by simp [cpuReadPair]
@[simp] theorem cpuReadPair_params (l h : Word) (s : State) : (cpuReadPair l h s).2.params = s.params := by simp [cpuReadPair]

@[simp] theorem resolve_cpu (m : Mode) (s : State) : (resolve m s).2.cpu = s.cpu := by cases m <;> simp [resolve]
@[simp] theorem resolve_mem (m : Mode) (s : State) : (resolve m s).2.mem = s.mem := by cases m <;> simp [resolve]
@[simp] theorem resolve_driver (m : Mode) (s : State) : (resolve m s).2.driver = s.driver := by cases m <;> simp [resolve]
@[simp] theorem resolve_diag (m : Mode) (s : State) : (resolve m s).2.diag = s.diag := by cases m <;> simp [resolve]
@[simp] theorem resolve_params (m : Mode) (s : State) : (resolve m s).2.params = s.params := by cases m <;> simp [resolve]

@[simp] theorem readOperand_cpu (o : Operand) (s : State) : (readOperand o s).2.cpu = s.cpu := by cases o <;> simp [readOperand]
@[simp] theorem readOperand_mem (o : Operand) (s : State) : (readOperand o s).2.mem = s.mem := by cases o <;> simp [readOperand]
@[simp] theorem readOperand_driver (o : Operand) (s : State) : (readOperand o s).2.driver = s.driver := by
  cases o <;> simp [readOperand]
@[simp] theorem readOperand_diag (o : Operand) (s : State) : (readOperand o s).2.diag = s.diag := by
  cases o <;> simp [readOperand]
@[simp] theorem readOperand_params (o : Operand) (s : State) : (readOperand o s).2.params = s.params := by
  cases o <;> simp [readOperand]

/-! ### The stack -/

theorem wordOf_toNat (hi lo : Byte) : (wordOf hi lo).toNat = hi.toNat * 256 + lo.toNat := by
  rw [wordOf, BitVec.toNat_append, ← Nat.shiftLeft_add_eq_or_of_lt lo.isLt, Nat.shiftLeft_eq]

@[simp] theorem lowByte_wordOf (hi lo : Byte) : lowByte (wordOf hi lo) = lo := by
  apply BitVec.eq_of_toNat_eq
  simp [lowByte, wordOf_toNat]
  omega

@[simp] theorem highByte_wordOf (hi lo : Byte) : highByte (wordOf hi lo) = hi := by
  apply BitVec.eq_of_toNat_eq
  have := lo.isLt
  have := hi.isLt
  simp [highByte, wordOf_toNat, Nat.shiftRight_eq_div_pow]
  omega

@[simp] theorem wordOf_high_low (w : Word) : wordOf (highByte w) (lowByte w) = w := by
  apply BitVec.eq_of_toNat_eq
  have := w.isLt
  simp [highByte, lowByte, wordOf_toNat, Nat.shiftRight_eq_div_pow]
  omega

theorem stackAddr_toNat (sp : Byte) : (stackAddr sp).toNat = 0x100 + sp.toNat := by
  simp [stackAddr, wordOf_toNat]

/-- A stack address is RAM and no hook sees it (45_stack_flag_misc.md R220). -/
theorem stackAddr_plain (sp : Byte) : cpuMirror (stackAddr sp) = stackAddr sp ∧
    readHooked (stackAddr sp) = false ∧ writeHooked (stackAddr sp) = false := by
  have h : ∀ sp : Byte, cpuMirror (stackAddr sp) = stackAddr sp ∧
      readHooked (stackAddr sp) = false ∧ writeHooked (stackAddr sp) = false := by decide
  exact h sp

/-- Push: the byte on the stack, SP one lower, the write logged; nothing else (R220). -/
theorem push_eq (v : Byte) (s : State) : push v s =
    (putCpuByte (0x100 + s.cpu.sp.toNat) v (logWrite (stackAddr s.cpu.sp) s)).setCpu { s.cpu with sp := s.cpu.sp - 1#8 } := by
  obtain ⟨h1, -, h3⟩ := stackAddr_plain s.cpu.sp
  simp only [push, cpuWrite_plain v s (by rw [h1]; exact h3), h1, stackAddr_toNat]
  rfl

/-- Pull: the byte above SP, SP one higher, the read logged; nothing else (R221). -/
theorem pull_eq (s : State) : pull s =
    (s.cpuByte (0x100 + (s.cpu.sp + 1#8).toNat),
      (logRead (stackAddr (s.cpu.sp + 1#8)) s).setCpu { s.cpu with sp := s.cpu.sp + 1#8 }) := by
  obtain ⟨h1, h2, -⟩ := stackAddr_plain (s.cpu.sp + 1#8)
  simp only [pull, State.setCpu_cpu]
  rw [cpuRead_plain _ (by rw [h1]; exact h2), h1, stackAddr_toNat]
  rfl

/-! ### Access classes: what each leaves alone -/

/-- A register instruction writes CPU registers only. -/
theorem registerClass_eq (f : Cpu → Cpu) (len base : Nat) (s : State) : registerClass f len base s =
    s.setCpu { f s.cpu with pc := nextPc len s, cycles := (f s.cpu).cycles + base } := rfl

/-- A reading instruction: the state after its reads, with new CPU registers. -/
theorem readClass_eq (f : Byte → Cpu → Cpu) (o : Operand) (len base : Nat) (pen : Bool) (s : State) :
    readClass f o len base pen s =
      (readOperand o s).2.setCpu { f (readOperand o s).1.1 s.cpu with
        pc := nextPc len s
        cycles := (f (readOperand o s).1.1 s.cpu).cycles + (base + crossExtra pen (readOperand o s).1.2 s) } := by
  simp [readClass, retire_eq]

/-- A storing instruction: the bus write, PC and cycles. -/
theorem writeClass_eq (v : Byte) (m : Mode) (len base : Nat) (s : State) : writeClass v m len base s =
    (cpuWrite (resolve m s).1.addr v (resolve m s).2).setCpu
      { s.cpu with pc := nextPc len s, cycles := s.cpu.cycles + base } := by
  simp [writeClass, retire_eq]

/-- A read-modify-write instruction on memory: the bus read, the bus write, P, PC and cycles. -/
theorem modifyClass_eq (f : Byte → Byte → Byte × Byte) (m : Mode) (len base : Nat) (s : State) :
    modifyClass f m len base s =
      (cpuWrite (resolve m s).1.addr (f (cpuRead (resolve m s).1.addr (resolve m s).2).1 s.cpu.p).1
        (cpuRead (resolve m s).1.addr (resolve m s).2).2).setCpu
        { s.cpu with p := (f (cpuRead (resolve m s).1.addr (resolve m s).2).1 s.cpu.p).2, pc := nextPc len s,
                     cycles := s.cpu.cycles + base } := by
  simp [modifyClass, retire_eq]

/-- A branch writes PC and cycles only. -/
theorem branchClass_eq (taken : Bool) (b1 : Byte) (s : State) : branchClass taken b1 s =
    s.setCpu { s.cpu with
      pc := if taken then branchTarget (nextPc 2 s) b1 else nextPc 2 s
      cycles := s.cpu.cycles + (2 + branchExtra taken (nextPc 2 s) (branchTarget (nextPc 2 s) b1) s) } := rfl

/-! ### The canonical form -/

theorem push_wf (v : Byte) {s : State} (h : s.mem.wf = true) : (push v s).mem.wf = true := cpuWrite_wf _ v h

theorem pull_mem (s : State) : (pull s).2.mem = s.mem := by simp [pull]

theorem takeException_wf (w v : Word) (n : Nat) {s : State} (h : s.mem.wf = true) : (takeException w v n s).mem.wf = true := by
  simp only [takeException, retire_mem, cpuReadPair_mem, State.setCpu_mem]
  exact push_wf _ (push_wf _ (push_wf _ h))

end Sys2Proof.Machine
end

