-- ==== Sys2Proof/Laws/Shapes.lean ====
section
/-!
SUPPORT. Every instruction is one of thirteen shapes over the shared operations (30_encoding.md R124), so that a claim over all
instructions takes thirteen cases, not 151.
-/
namespace Sys2Proof.Machine

/-- The thirteen shapes. -/
inductive Shape where
  | register (f : Cpu → Cpu) (len base : Nat)
  | read (f : Byte → Cpu → Cpu) (o : Operand) (len base : Nat) (penalty : Bool)
  | write (value : Cpu → Byte) (m : Mode) (len base : Nat)
  | modify (f : Byte → Byte → Byte × Byte) (m : Mode) (len base : Nat)
  | branch (cond : Byte → Bool) (b1 : Byte)
  | jump (w : Word) (base : Nat)
  | jumpThrough (w : Word) (base : Nat)
  | call (w : Word) (base : Nat)
  | back (base : Nat)
  | exit (base : Nat)
  | trap (vector : Word) (base : Nat)
  | push (value : Cpu → Byte) (base : Nat)
  | pull (f : Byte → Cpu → Cpu) (base : Nat)

/-- What an instruction of each shape does. -/
def Shape.run : Shape → State → State
  | .register f len base, s => registerClass f len base s
  | .read f o len base pen, s => readClass f o len base pen s
  | .write value m len base, s => writeClass (value s.cpu) m len base s
  | .modify f m len base, s => modifyClass f m len base s
  | .branch cond b1, s => branchClass (cond s.cpu.p) b1 s
  | .jump w base, s => retire w base s
  | .jumpThrough w base, s => Sys2Proof.Machine.jumpThrough (resolve (.ind w) s) base
  | .call w base, s => retire w base (pushWord (nextPc 2 s) s)
  | .back base, s => returnToCaller (pullWord s) base
  | .exit base, s => returnFromException base s
  | .trap vector base, s => takeException (nextPc 2 s) vector base s
  | .push value base, s => retire (nextPc 1 s) base (Sys2Proof.Machine.push (value s.cpu) s)
  | .pull f base, s => retire (nextPc 1 s) base (pullInto f s)

/-- A change of registers that keeps the cycle count and, where P has its held bits, keeps them (10_state.md R26). -/
def GoodRegs (f : Cpu → Cpu) : Prop :=
  ∀ c, (f c).cycles = c.cycles ∧
    (c.p.getLsbD 5 = true → c.p.getLsbD 4 = false → (f c).p.getLsbD 5 = true ∧ (f c).p.getLsbD 4 = false)

/-- What the shapes of the 151 instructions satisfy: register changes are good, base costs are 2 to 7. -/
def Shape.Good : Shape → Prop
  | .register f _ base => GoodRegs f ∧ 2 ≤ base ∧ base ≤ 7
  | .read f _ _ base _ => (∀ m, GoodRegs (f m)) ∧ 2 ≤ base ∧ base ≤ 7
  | .write _ _ _ base => 2 ≤ base ∧ base ≤ 7
  | .modify f _ _ base => (∀ m p, (f m p).2.getLsbD 5 = p.getLsbD 5 ∧ (f m p).2.getLsbD 4 = p.getLsbD 4) ∧ 2 ≤ base ∧ base ≤ 7
  | .branch _ _ => True
  | .jump _ base => 2 ≤ base ∧ base ≤ 7
  | .jumpThrough _ base => 2 ≤ base ∧ base ≤ 7
  | .call _ base => 2 ≤ base ∧ base ≤ 7
  | .back base => 2 ≤ base ∧ base ≤ 7
  | .exit base => 2 ≤ base ∧ base ≤ 7
  | .trap _ base => 2 ≤ base ∧ base ≤ 7
  | .push _ base => 2 ≤ base ∧ base ≤ 7
  | .pull f base => (∀ m, GoodRegs (f m)) ∧ 2 ≤ base ∧ base ≤ 7

/-- The shape of an instruction. -/
def Shape.of : Instr → Shape
  | .brk => .trap Config.brkVector 7
  | .oraIndX d => .read orA (.mem (.indX d)) 2 6 false
  | .oraZp d => .read orA (.mem (.zp d)) 2 3 false
  | .aslZp d => .modify aslCore (.zp d) 2 5
  | .php => .push (fun c => pushedStatus c.p) 3
  | .oraImm v => .read orA (.imm v) 2 2 false
  | .aslAcc => .register (fun c => { c with a := (aslCore c.a c.p).1, p := (aslCore c.a c.p).2 }) 1 2
  | .oraAbs w => .read orA (.mem (.abs w)) 3 4 false
  | .aslAbs w => .modify aslCore (.abs w) 3 6
  | .bpl o => .branch (fun p => !flagN p) o
  | .oraIndY d => .read orA (.mem (.indY d)) 2 5 true
  | .oraZpX d => .read orA (.mem (.zpX d)) 2 4 false
  | .aslZpX d => .modify aslCore (.zpX d) 2 6
  | .clc => .register (fun c => { c with p := setC false c.p }) 1 2
  | .oraAbsY w => .read orA (.mem (.absY w)) 3 4 true
  | .oraAbsX w => .read orA (.mem (.absX w)) 3 4 true
  | .aslAbsX w => .modify aslCore (.absX w) 3 7
  | .jsr w => .call w 6
  | .andIndX d => .read andA (.mem (.indX d)) 2 6 false
  | .bitZp d => .read testBits (.mem (.zp d)) 2 3 false
  | .andZp d => .read andA (.mem (.zp d)) 2 3 false
  | .rolZp d => .modify rolCore (.zp d) 2 5
  | .plp => .pull loadStatus 4
  | .andImm v => .read andA (.imm v) 2 2 false
  | .rolAcc => .register (fun c => { c with a := (rolCore c.a c.p).1, p := (rolCore c.a c.p).2 }) 1 2
  | .bitAbs w => .read testBits (.mem (.abs w)) 3 4 false
  | .andAbs w => .read andA (.mem (.abs w)) 3 4 false
  | .rolAbs w => .modify rolCore (.abs w) 3 6
  | .bmi o => .branch (fun p => flagN p) o
  | .andIndY d => .read andA (.mem (.indY d)) 2 5 true
  | .andZpX d => .read andA (.mem (.zpX d)) 2 4 false
  | .rolZpX d => .modify rolCore (.zpX d) 2 6
  | .sec => .register (fun c => { c with p := setC true c.p }) 1 2
  | .andAbsY w => .read andA (.mem (.absY w)) 3 4 true
  | .andAbsX w => .read andA (.mem (.absX w)) 3 4 true
  | .rolAbsX w => .modify rolCore (.absX w) 3 7
  | .rti => .exit 6
  | .eorIndX d => .read eorA (.mem (.indX d)) 2 6 false
  | .eorZp d => .read eorA (.mem (.zp d)) 2 3 false
  | .lsrZp d => .modify lsrCore (.zp d) 2 5
  | .pha => .push (·.a) 3
  | .eorImm v => .read eorA (.imm v) 2 2 false
  | .lsrAcc => .register (fun c => { c with a := (lsrCore c.a c.p).1, p := (lsrCore c.a c.p).2 }) 1 2
  | .jmpAbs w => .jump w 3
  | .eorAbs w => .read eorA (.mem (.abs w)) 3 4 false
  | .lsrAbs w => .modify lsrCore (.abs w) 3 6
  | .bvc o => .branch (fun p => !flagV p) o
  | .eorIndY d => .read eorA (.mem (.indY d)) 2 5 true
  | .eorZpX d => .read eorA (.mem (.zpX d)) 2 4 false
  | .lsrZpX d => .modify lsrCore (.zpX d) 2 6
  | .cli => .register (fun c => { c with p := setI false c.p }) 1 2
  | .eorAbsY w => .read eorA (.mem (.absY w)) 3 4 true
  | .eorAbsX w => .read eorA (.mem (.absX w)) 3 4 true
  | .lsrAbsX w => .modify lsrCore (.absX w) 3 7
  | .rts => .back 6
  | .adcIndX d => .read addWithCarry (.mem (.indX d)) 2 6 false
  | .adcZp d => .read addWithCarry (.mem (.zp d)) 2 3 false
  | .rorZp d => .modify rorCore (.zp d) 2 5
  | .pla => .pull loadA 4
  | .adcImm v => .read addWithCarry (.imm v) 2 2 false
  | .rorAcc => .register (fun c => { c with a := (rorCore c.a c.p).1, p := (rorCore c.a c.p).2 }) 1 2
  | .jmpInd w => .jumpThrough w 5
  | .adcAbs w => .read addWithCarry (.mem (.abs w)) 3 4 false
  | .rorAbs w => .modify rorCore (.abs w) 3 6
  | .bvs o => .branch (fun p => flagV p) o
  | .adcIndY d => .read addWithCarry (.mem (.indY d)) 2 5 true
  | .adcZpX d => .read addWithCarry (.mem (.zpX d)) 2 4 false
  | .rorZpX d => .modify rorCore (.zpX d) 2 6
  | .sei => .register (fun c => { c with p := setI true c.p }) 1 2
  | .adcAbsY w => .read addWithCarry (.mem (.absY w)) 3 4 true
  | .adcAbsX w => .read addWithCarry (.mem (.absX w)) 3 4 true
  | .rorAbsX w => .modify rorCore (.absX w) 3 7
  | .staIndX d => .write (·.a) (.indX d) 2 6
  | .styZp d => .write (·.y) (.zp d) 2 3
  | .staZp d => .write (·.a) (.zp d) 2 3
  | .stxZp d => .write (·.x) (.zp d) 2 3
  | .dey => .register decY 1 2
  | .txa => .register (fun c => loadA c.x c) 1 2
  | .styAbs w => .write (·.y) (.abs w) 3 4
  | .staAbs w => .write (·.a) (.abs w) 3 4
  | .stxAbs w => .write (·.x) (.abs w) 3 4
  | .bcc o => .branch (fun p => !flagC p) o
  | .staIndY d => .write (·.a) (.indY d) 2 6
  | .styZpX d => .write (·.y) (.zpX d) 2 4
  | .staZpX d => .write (·.a) (.zpX d) 2 4
  | .stxZpY d => .write (·.x) (.zpY d) 2 4
  | .tya => .register (fun c => loadA c.y c) 1 2
  | .staAbsY w => .write (·.a) (.absY w) 3 5
  | .txs => .register copyXToSp 1 2
  | .staAbsX w => .write (·.a) (.absX w) 3 5
  | .ldyImm v => .read loadY (.imm v) 2 2 false
  | .ldaIndX d => .read loadA (.mem (.indX d)) 2 6 false
  | .ldxImm v => .read loadX (.imm v) 2 2 false
  | .ldyZp d => .read loadY (.mem (.zp d)) 2 3 false
  | .ldaZp d => .read loadA (.mem (.zp d)) 2 3 false
  | .ldxZp d => .read loadX (.mem (.zp d)) 2 3 false
  | .tay => .register (fun c => loadY c.a c) 1 2
  | .ldaImm v => .read loadA (.imm v) 2 2 false
  | .tax => .register (fun c => loadX c.a c) 1 2
  | .ldyAbs w => .read loadY (.mem (.abs w)) 3 4 false
  | .ldaAbs w => .read loadA (.mem (.abs w)) 3 4 false
  | .ldxAbs w => .read loadX (.mem (.abs w)) 3 4 false
  | .bcs o => .branch (fun p => flagC p) o
  | .ldaIndY d => .read loadA (.mem (.indY d)) 2 5 true
  | .ldyZpX d => .read loadY (.mem (.zpX d)) 2 4 false
  | .ldaZpX d => .read loadA (.mem (.zpX d)) 2 4 false
  | .ldxZpY d => .read loadX (.mem (.zpY d)) 2 4 false
  | .clv => .register (fun c => { c with p := setV false c.p }) 1 2
  | .ldaAbsY w => .read loadA (.mem (.absY w)) 3 4 true
  | .tsx => .register (fun c => loadX c.sp c) 1 2
  | .ldyAbsX w => .read loadY (.mem (.absX w)) 3 4 true
  | .ldaAbsX w => .read loadA (.mem (.absX w)) 3 4 true
  | .ldxAbsY w => .read loadX (.mem (.absY w)) 3 4 true
  | .cpyImm v => .read compareY (.imm v) 2 2 false
  | .cmpIndX d => .read compareA (.mem (.indX d)) 2 6 false
  | .cpyZp d => .read compareY (.mem (.zp d)) 2 3 false
  | .cmpZp d => .read compareA (.mem (.zp d)) 2 3 false
  | .decZp d => .modify decCore (.zp d) 2 5
  | .iny => .register incY 1 2
  | .cmpImm v => .read compareA (.imm v) 2 2 false
  | .dex => .register decX 1 2
  | .cpyAbs w => .read compareY (.mem (.abs w)) 3 4 false
  | .cmpAbs w => .read compareA (.mem (.abs w)) 3 4 false
  | .decAbs w => .modify decCore (.abs w) 3 6
  | .bne o => .branch (fun p => !flagZ p) o
  | .cmpIndY d => .read compareA (.mem (.indY d)) 2 5 true
  | .cmpZpX d => .read compareA (.mem (.zpX d)) 2 4 false
  | .decZpX d => .modify decCore (.zpX d) 2 6
  | .cld => .register (fun c => { c with p := setD false c.p }) 1 2
  | .cmpAbsY w => .read compareA (.mem (.absY w)) 3 4 true
  | .cmpAbsX w => .read compareA (.mem (.absX w)) 3 4 true
  | .decAbsX w => .modify decCore (.absX w) 3 7
  | .cpxImm v => .read compareX (.imm v) 2 2 false
  | .sbcIndX d => .read subWithBorrow (.mem (.indX d)) 2 6 false
  | .cpxZp d => .read compareX (.mem (.zp d)) 2 3 false
  | .sbcZp d => .read subWithBorrow (.mem (.zp d)) 2 3 false
  | .incZp d => .modify incCore (.zp d) 2 5
  | .inx => .register incX 1 2
  | .sbcImm v => .read subWithBorrow (.imm v) 2 2 false
  | .nop => .register (fun c => c) 1 2
  | .cpxAbs w => .read compareX (.mem (.abs w)) 3 4 false
  | .sbcAbs w => .read subWithBorrow (.mem (.abs w)) 3 4 false
  | .incAbs w => .modify incCore (.abs w) 3 6
  | .beq o => .branch (fun p => flagZ p) o
  | .sbcIndY d => .read subWithBorrow (.mem (.indY d)) 2 5 true
  | .sbcZpX d => .read subWithBorrow (.mem (.zpX d)) 2 4 false
  | .incZpX d => .modify incCore (.zpX d) 2 6
  | .sed => .register (fun c => { c with p := setD true c.p }) 1 2
  | .sbcAbsY w => .read subWithBorrow (.mem (.absY w)) 3 4 true
  | .sbcAbsX w => .read subWithBorrow (.mem (.absX w)) 3 4 true
  | .incAbsX w => .modify incCore (.absX w) 3 7

/-- `exec` is the instruction's shape. -/
theorem exec_shape (i : Instr) (s : State) : exec i s = .next ((Shape.of i).run s) := by
  cases i <;> rfl

/-! ### Every shape is good -/

theorem getLsbD_five_four_setNZ (v p : Byte) :
    (setNZ v p).getLsbD 5 = p.getLsbD 5 ∧ (setNZ v p).getLsbD 4 = p.getLsbD 4 := by simp

/-- A register change that writes P by flag operations only. -/
theorem goodRegs_of {f : Cpu → Cpu} (h1 : ∀ c, (f c).cycles = c.cycles)
    (h2 : ∀ c, (f c).p.getLsbD 5 = c.p.getLsbD 5 ∧ (f c).p.getLsbD 4 = c.p.getLsbD 4) : GoodRegs f :=
  fun c => ⟨h1 c, fun h5 h4 => ⟨(h2 c).1.trans h5, (h2 c).2.trans h4⟩⟩

theorem goodRegs_loadA (m : Byte) : GoodRegs (loadA m) := goodRegs_of (fun _ => rfl) fun c => by simp [loadA]
theorem goodRegs_loadX (m : Byte) : GoodRegs (loadX m) := goodRegs_of (fun _ => rfl) fun c => by simp [loadX]
theorem goodRegs_loadY (m : Byte) : GoodRegs (loadY m) := goodRegs_of (fun _ => rfl) fun c => by simp [loadY]
theorem goodRegs_add (m : Byte) : GoodRegs (addWithCarry m) := goodRegs_of (fun _ => rfl) fun c => by simp [addWithCarry, addCore]
theorem goodRegs_sub (m : Byte) : GoodRegs (subWithBorrow m) := goodRegs_of (fun _ => rfl) fun c => by simp [subWithBorrow, subCore]
theorem goodRegs_and (m : Byte) : GoodRegs (andA m) := goodRegs_of (fun _ => rfl) fun c => by simp [andA, resultA]
theorem goodRegs_or (m : Byte) : GoodRegs (orA m) := goodRegs_of (fun _ => rfl) fun c => by simp [orA, resultA]
theorem goodRegs_eor (m : Byte) : GoodRegs (eorA m) := goodRegs_of (fun _ => rfl) fun c => by simp [eorA, resultA]
theorem goodRegs_bit (m : Byte) : GoodRegs (testBits m) := goodRegs_of (fun _ => rfl) fun c => by simp [testBits, bitCore]
theorem goodRegs_cmp (m : Byte) : GoodRegs (compareA m) := goodRegs_of (fun _ => rfl) fun c => by simp [compareA, compareCore]
theorem goodRegs_cpx (m : Byte) : GoodRegs (compareX m) := goodRegs_of (fun _ => rfl) fun c => by simp [compareX, compareCore]
theorem goodRegs_cpy (m : Byte) : GoodRegs (compareY m) := goodRegs_of (fun _ => rfl) fun c => by simp [compareY, compareCore]
theorem goodRegs_loadStatus (m : Byte) : GoodRegs (loadStatus m) :=
  fun c => ⟨rfl, fun _ _ => by simp [loadStatus, storedStatus]⟩

/-- Every instruction's shape is good. -/
theorem shape_good (i : Instr) : (Shape.of i).Good := by
  cases i
  all_goals
    simp only [Shape.of, Shape.Good, goodRegs_loadA, goodRegs_loadX, goodRegs_loadY, goodRegs_add, goodRegs_sub, goodRegs_and,
      goodRegs_or, goodRegs_eor, goodRegs_bit, goodRegs_cmp, goodRegs_cpx, goodRegs_cpy, goodRegs_loadStatus, implies_true, and_true,
      Nat.reduceLeDiff, and_self, Nat.le_refl]
  all_goals first
    | exact goodRegs_of (fun _ => rfl) fun c => by
        simp [loadA, loadX, loadY, incX, incY, decX, decY, copyXToSp, aslCore, lsrCore, rolCore, rorCore]
    | exact fun m p => by simp [incCore, decCore, aslCore, lsrCore, rolCore, rorCore]

end Sys2Proof.Machine
end

