-- ==== Sys2Proof/Laws/Driver.lean ====
section
/-!
SUPPORT. The rest of the driver iteration: what a PPU tick and a synchronisation leave alone, and an induction rule over ticks.
-/
namespace Sys2Proof.Machine

/-! ### A tick writes the PPU and, at the end of a frame, the events -/

@[simp] theorem completeFrame_cpu (s : State) : (completeFrame s).cpu = s.cpu := rfl
@[simp] theorem completeFrame_mem (s : State) : (completeFrame s).mem = s.mem := rfl
@[simp] theorem completeFrame_bus (s : State) : (completeFrame s).bus = s.bus := rfl
@[simp] theorem completeFrame_pad (s : State) : (completeFrame s).pad = s.pad := rfl
@[simp] theorem completeFrame_driver (s : State) : (completeFrame s).driver = s.driver := rfl
@[simp] theorem completeFrame_host (s : State) : (completeFrame s).host = s.host := rfl
@[simp] theorem completeFrame_params (s : State) : (completeFrame s).params = s.params := rfl

/-- Everything a tick can do: one case per kind of cycle (60_exceptions.md R340). -/
theorem ppuTick_cases (s : State) :
    let c := (s.ppu.cycle + 1) % Config.frameLength
    let t := s.setPpu { s.ppu with cycle := c }
    (c = Config.vblankSetCycle ∧ ppuTick s = setVBlank t) ∨ (c = 0 ∧ ppuTick s = completeFrame t) ∨
    (c ≠ Config.vblankSetCycle ∧ c ≠ 0 ∧ ppuTick s = t) := by
  intro c t
  by_cases h1 : c = Config.vblankSetCycle
  · exact .inl ⟨h1, by
      unfold ppuTick
      have h0 : ¬ c = 0 := by rw [h1]; decide
      exact (if_neg h0).trans (if_pos h1)⟩
  · by_cases h0 : c = 0
    · refine .inr (.inl ⟨h0, ?_⟩)
      unfold ppuTick
      refine (if_pos h0).trans ?_
      exact congrArg completeFrame (if_neg h1)
    · exact .inr (.inr ⟨h1, h0, (if_neg h0).trans (if_neg h1)⟩)

/-- A property that all three kinds of cycle keep is kept by a tick. -/
theorem ppuTick_induct {P : State → Prop} {s : State} (h : P s)
    (hc : ∀ t n, P t → P (t.setPpu { t.ppu with cycle := n })) (hv : ∀ t, P t → P (setVBlank t))
    (hf : ∀ t, P t → P (completeFrame t)) : P (ppuTick s) := by
  obtain ⟨-, h'⟩ | ⟨-, h'⟩ | ⟨-, -, h'⟩ := ppuTick_cases s <;> rw [h']
  · exact hv _ (hc _ _ h)
  · exact hf _ (hc _ _ h)
  · exact hc _ _ h

@[simp] theorem ppuTick_cpu (s : State) : (ppuTick s).cpu = s.cpu :=
  ppuTick_induct (P := fun t => t.cpu = s.cpu) rfl (fun _ _ h => h) (fun _ h => h) (fun _ h => h)
@[simp] theorem ppuTick_mem (s : State) : (ppuTick s).mem = s.mem :=
  ppuTick_induct (P := fun t => t.mem = s.mem) rfl (fun _ _ h => h) (fun _ h => h) (fun _ h => h)
@[simp] theorem ppuTick_bus (s : State) : (ppuTick s).bus = s.bus :=
  ppuTick_induct (P := fun t => t.bus = s.bus) rfl (fun _ _ h => h) (fun _ h => h) (fun _ h => h)
@[simp] theorem ppuTick_pad (s : State) : (ppuTick s).pad = s.pad :=
  ppuTick_induct (P := fun t => t.pad = s.pad) rfl (fun _ _ h => h) (fun _ h => h) (fun _ h => h)
@[simp] theorem ppuTick_driver (s : State) : (ppuTick s).driver = s.driver :=
  ppuTick_induct (P := fun t => t.driver = s.driver) rfl (fun _ _ h => h) (fun _ h => h) (fun _ h => h)
@[simp] theorem ppuTick_host (s : State) : (ppuTick s).host = s.host :=
  ppuTick_induct (P := fun t => t.host = s.host) rfl (fun _ _ h => h) (fun _ h => h) (fun _ h => h)
@[simp] theorem ppuTick_params (s : State) : (ppuTick s).params = s.params :=
  ppuTick_induct (P := fun t => t.params = s.params) rfl (fun _ _ h => h) (fun _ h => h) (fun _ h => h)

/-! ### Synchronisation -/

/-- A property that ticks and the driver's count keep is kept by `sync`. -/
theorem syncTimes_induct {P : State → Prop} (ht : ∀ t, P t → P (ppuTick t)) (hd : ∀ t d, P t → P (t.setDriver d))
    (n : Nat) (s : State) (h : P s) : P (syncTimes n s) := by
  induction n generalizing s with
  | zero => exact h
  | succ n ih => exact ih _ (hd _ _ (ht _ (ht _ (ht _ h))))

@[simp] theorem sync_cpu (s : State) : (sync s).cpu = s.cpu :=
  syncTimes_induct (P := fun t => t.cpu = s.cpu) (fun t h => (ppuTick_cpu t).trans h) (fun _ _ h => h) _ s rfl
@[simp] theorem sync_mem (s : State) : (sync s).mem = s.mem :=
  syncTimes_induct (P := fun t => t.mem = s.mem) (fun t h => (ppuTick_mem t).trans h) (fun _ _ h => h) _ s rfl
@[simp] theorem sync_bus (s : State) : (sync s).bus = s.bus :=
  syncTimes_induct (P := fun t => t.bus = s.bus) (fun t h => (ppuTick_bus t).trans h) (fun _ _ h => h) _ s rfl
@[simp] theorem sync_pad (s : State) : (sync s).pad = s.pad :=
  syncTimes_induct (P := fun t => t.pad = s.pad) (fun t h => (ppuTick_pad t).trans h) (fun _ _ h => h) _ s rfl
@[simp] theorem sync_host (s : State) : (sync s).host = s.host :=
  syncTimes_induct (P := fun t => t.host = s.host) (fun t h => (ppuTick_host t).trans h) (fun _ _ h => h) _ s rfl
@[simp] theorem sync_params (s : State) : (sync s).params = s.params :=
  syncTimes_induct (P := fun t => t.params = s.params) (fun t h => (ppuTick_params t).trans h) (fun _ _ h => h) _ s rfl

/-! ### The iteration -/

/-- The host's next input: the head of the known ones, or a draw of its own number (00_scope.md R9). -/
theorem sampleDebug_cases (s : State) :
    (∃ d rest, s.host.checks = d :: rest ∧ sampleDebug s = (d, s.setHost { s.host with checks := rest })) ∨
    (s.host.checks = [] ∧
      (sampleDebug s).2 = s.setHost { s.host with checkDraws := s.host.checkDraws + 1 } ∧
      (sampleDebug s).1 = { breakpoints := Config.hostBreakpoints s.host.checkDraws
                            command := Config.hostCommand s.host.checkDraws
                            tracing := Config.hostTracing s.host.checkDraws }) := by
  unfold sampleDebug
  cases h : s.host.checks with
  | nil => exact .inr ⟨rfl, rfl, rfl⟩
  | cons d rest => exact .inl ⟨d, rest, rfl, rfl⟩

/-- A draw changes the host's record of its inputs alone. -/
theorem sampleDebug_host (s : State) : (sampleDebug s).2 = s.setHost (sampleDebug s).2.host := by
  obtain ⟨d, rest, -, h⟩ | ⟨-, h, -⟩ := sampleDebug_cases s <;> rw [h] <;> rfl

/-- What the check can do: hold or run, with a new `paused` (60_exceptions.md R380). -/
theorem breakpointGate_cases (d : DebugInput) (s : State) :
    ∃ paused, let t := s.setDriver { s.driver with paused := paused }
      breakpointGate d s = .hold t ∨ breakpointGate d s = .run t := by
  unfold breakpointGate
  split
  · exact ⟨s.driver.paused, .inr rfl⟩
  · exact ⟨false, .inr rfl⟩
  · split
    · exact ⟨s.driver.paused, .inl rfl⟩
    · split
      · exact ⟨true, .inl rfl⟩
      · exact ⟨s.driver.paused, .inr rfl⟩

/-- How an iteration starts: the draw, a new `paused`, and in an iteration that runs perhaps its trace line. -/
theorem startIteration_cases (s : State) :
    ∃ paused, let t := (sampleDebug s).2.setDriver { s.driver with paused := paused }
      startIteration s = .hold t ∨ startIteration s = .run t ∨ startIteration s = .run (emit (.trace (traceLine t)) t) := by
  have hd : (sampleDebug s).2.driver = s.driver := by rw [sampleDebug_host]; rfl
  obtain ⟨p, h⟩ := breakpointGate_cases (sampleDebug s).1 (sampleDebug s).2
  rw [hd] at h
  refine ⟨p, ?_⟩
  unfold startIteration trace
  obtain h | h := h <;> dsimp only <;> rw [h]
  · exact .inl rfl
  · cases (sampleDebug s).1.tracing
    · exact .inr (.inl rfl)
    · exact .inr (.inr rfl)

/-- What a step is: a hold, an instruction on the state after its fetch, or the report of an illegal opcode (R400). -/
theorem step_cases (s : State) :
    (∃ t, startIteration s = .hold t ∧ step s = .next t) ∨
    ∃ t, startIteration s = .run t ∧
      ((∃ i u, fetch t = (.instr i, u) ∧ step s = .next (finishIteration ((Shape.of i).run u))) ∨
       ∃ op u, fetch t = (.illegal op, u) ∧ step s = .next (finishIteration (reportIllegal op u))) := by
  unfold step cpuStep
  cases hg : startIteration s with
  | hold t => exact .inl ⟨t, rfl, rfl⟩
  | run t =>
    refine .inr ⟨t, rfl, ?_⟩
    dsimp only
    rcases hf : fetch t with ⟨f, u⟩
    cases f with
    | instr i =>
      exact .inl ⟨i, u, rfl, by show afterExec (exec i u) = _; rw [exec_shape]; rfl⟩
    | illegal op => exact .inr ⟨op, u, rfl, rfl⟩

/-- A property every bus read keeps is kept by the fetch. -/
theorem fetch_induct {P : State → Prop} (hr : ∀ a s, P s → P (cpuRead a s).2) (s : State) (h : P s) : P (fetch s).2 := by
  unfold fetch
  dsimp only
  split
  · exact hr _ _ h
  · exact hr _ _ h
  · exact hr _ _ (hr _ _ h)
  · exact hr _ _ (hr _ _ (hr _ _ h))

end Sys2Proof.Machine
end

