-- ==== Sys2Proof/Laws/PerInstr.lean ====
section
/-!
SUPPORT. Statements for all instructions, one lemma per constructor (LAWS.json: EncodedLength).
-/

/-- The first byte of an instruction's encoding alone tells its length (30_encoding.md R100). -/
def Sys2Proof.Laws.EncodedLength.Statement (i : Sys2Proof.Instr) : Prop :=
  ∃ op f, (Sys2Proof.encode i).head? = some op ∧ Sys2Proof.decodeOpcode op = some f ∧
    Sys2Proof.formLength f = (Sys2Proof.encode i).length

namespace Sys2Proof.Laws.EncodedLength

theorem brk : Statement .brk := ⟨_, _, rfl, rfl, rfl⟩
theorem oraIndX (d : Byte) : Statement (.oraIndX d) := ⟨_, _, rfl, rfl, rfl⟩
theorem oraZp (d : Byte) : Statement (.oraZp d) := ⟨_, _, rfl, rfl, rfl⟩
theorem aslZp (d : Byte) : Statement (.aslZp d) := ⟨_, _, rfl, rfl, rfl⟩
theorem php : Statement .php := ⟨_, _, rfl, rfl, rfl⟩
theorem oraImm (v : Byte) : Statement (.oraImm v) := ⟨_, _, rfl, rfl, rfl⟩
theorem aslAcc : Statement .aslAcc := ⟨_, _, rfl, rfl, rfl⟩
theorem oraAbs (w : Word) : Statement (.oraAbs w) := ⟨_, _, rfl, rfl, rfl⟩
theorem aslAbs (w : Word) : Statement (.aslAbs w) := ⟨_, _, rfl, rfl, rfl⟩
theorem bpl (o : Byte) : Statement (.bpl o) := ⟨_, _, rfl, rfl, rfl⟩
theorem oraIndY (d : Byte) : Statement (.oraIndY d) := ⟨_, _, rfl, rfl, rfl⟩
theorem oraZpX (d : Byte) : Statement (.oraZpX d) := ⟨_, _, rfl, rfl, rfl⟩
theorem aslZpX (d : Byte) : Statement (.aslZpX d) := ⟨_, _, rfl, rfl, rfl⟩
theorem clc : Statement .clc := ⟨_, _, rfl, rfl, rfl⟩
theorem oraAbsY (w : Word) : Statement (.oraAbsY w) := ⟨_, _, rfl, rfl, rfl⟩
theorem oraAbsX (w : Word) : Statement (.oraAbsX w) := ⟨_, _, rfl, rfl, rfl⟩
theorem aslAbsX (w : Word) : Statement (.aslAbsX w) := ⟨_, _, rfl, rfl, rfl⟩
theorem jsr (w : Word) : Statement (.jsr w) := ⟨_, _, rfl, rfl, rfl⟩
theorem andIndX (d : Byte) : Statement (.andIndX d) := ⟨_, _, rfl, rfl, rfl⟩
theorem bitZp (d : Byte) : Statement (.bitZp d) := ⟨_, _, rfl, rfl, rfl⟩
theorem andZp (d : Byte) : Statement (.andZp d) := ⟨_, _, rfl, rfl, rfl⟩
theorem rolZp (d : Byte) : Statement (.rolZp d) := ⟨_, _, rfl, rfl, rfl⟩
theorem plp : Statement .plp := ⟨_, _, rfl, rfl, rfl⟩
theorem andImm (v : Byte) : Statement (.andImm v) := ⟨_, _, rfl, rfl, rfl⟩
theorem rolAcc : Statement .rolAcc := ⟨_, _, rfl, rfl, rfl⟩
theorem bitAbs (w : Word) : Statement (.bitAbs w) := ⟨_, _, rfl, rfl, rfl⟩
theorem andAbs (w : Word) : Statement (.andAbs w) := ⟨_, _, rfl, rfl, rfl⟩
theorem rolAbs (w : Word) : Statement (.rolAbs w) := ⟨_, _, rfl, rfl, rfl⟩
theorem bmi (o : Byte) : Statement (.bmi o) := ⟨_, _, rfl, rfl, rfl⟩
theorem andIndY (d : Byte) : Statement (.andIndY d) := ⟨_, _, rfl, rfl, rfl⟩
theorem andZpX (d : Byte) : Statement (.andZpX d) := ⟨_, _, rfl, rfl, rfl⟩
theorem rolZpX (d : Byte) : Statement (.rolZpX d) := ⟨_, _, rfl, rfl, rfl⟩
theorem sec : Statement .sec := ⟨_, _, rfl, rfl, rfl⟩
theorem andAbsY (w : Word) : Statement (.andAbsY w) := ⟨_, _, rfl, rfl, rfl⟩
theorem andAbsX (w : Word) : Statement (.andAbsX w) := ⟨_, _, rfl, rfl, rfl⟩
theorem rolAbsX (w : Word) : Statement (.rolAbsX w) := ⟨_, _, rfl, rfl, rfl⟩
theorem rti : Statement .rti := ⟨_, _, rfl, rfl, rfl⟩
theorem eorIndX (d : Byte) : Statement (.eorIndX d) := ⟨_, _, rfl, rfl, rfl⟩
theorem eorZp (d : Byte) : Statement (.eorZp d) := ⟨_, _, rfl, rfl, rfl⟩
theorem lsrZp (d : Byte) : Statement (.lsrZp d) := ⟨_, _, rfl, rfl, rfl⟩
theorem pha : Statement .pha := ⟨_, _, rfl, rfl, rfl⟩
theorem eorImm (v : Byte) : Statement (.eorImm v) := ⟨_, _, rfl, rfl, rfl⟩
theorem lsrAcc : Statement .lsrAcc := ⟨_, _, rfl, rfl, rfl⟩
theorem jmpAbs (w : Word) : Statement (.jmpAbs w) := ⟨_, _, rfl, rfl, rfl⟩
theorem eorAbs (w : Word) : Statement (.eorAbs w) := ⟨_, _, rfl, rfl, rfl⟩
theorem lsrAbs (w : Word) : Statement (.lsrAbs w) := ⟨_, _, rfl, rfl, rfl⟩
theorem bvc (o : Byte) : Statement (.bvc o) := ⟨_, _, rfl, rfl, rfl⟩
theorem eorIndY (d : Byte) : Statement (.eorIndY d) := ⟨_, _, rfl, rfl, rfl⟩
theorem eorZpX (d : Byte) : Statement (.eorZpX d) := ⟨_, _, rfl, rfl, rfl⟩
theorem lsrZpX (d : Byte) : Statement (.lsrZpX d) := ⟨_, _, rfl, rfl, rfl⟩
theorem cli : Statement .cli := ⟨_, _, rfl, rfl, rfl⟩
theorem eorAbsY (w : Word) : Statement (.eorAbsY w) := ⟨_, _, rfl, rfl, rfl⟩
theorem eorAbsX (w : Word) : Statement (.eorAbsX w) := ⟨_, _, rfl, rfl, rfl⟩
theorem lsrAbsX (w : Word) : Statement (.lsrAbsX w) := ⟨_, _, rfl, rfl, rfl⟩
theorem rts : Statement .rts := ⟨_, _, rfl, rfl, rfl⟩
theorem adcIndX (d : Byte) : Statement (.adcIndX d) := ⟨_, _, rfl, rfl, rfl⟩
theorem adcZp (d : Byte) : Statement (.adcZp d) := ⟨_, _, rfl, rfl, rfl⟩
theorem rorZp (d : Byte) : Statement (.rorZp d) := ⟨_, _, rfl, rfl, rfl⟩
theorem pla : Statement .pla := ⟨_, _, rfl, rfl, rfl⟩
theorem adcImm (v : Byte) : Statement (.adcImm v) := ⟨_, _, rfl, rfl, rfl⟩
theorem rorAcc : Statement .rorAcc := ⟨_, _, rfl, rfl, rfl⟩
theorem jmpInd (w : Word) : Statement (.jmpInd w) := ⟨_, _, rfl, rfl, rfl⟩
theorem adcAbs (w : Word) : Statement (.adcAbs w) := ⟨_, _, rfl, rfl, rfl⟩
theorem rorAbs (w : Word) : Statement (.rorAbs w) := ⟨_, _, rfl, rfl, rfl⟩
theorem bvs (o : Byte) : Statement (.bvs o) := ⟨_, _, rfl, rfl, rfl⟩
theorem adcIndY (d : Byte) : Statement (.adcIndY d) := ⟨_, _, rfl, rfl, rfl⟩
theorem adcZpX (d : Byte) : Statement (.adcZpX d) := ⟨_, _, rfl, rfl, rfl⟩
theorem rorZpX (d : Byte) : Statement (.rorZpX d) := ⟨_, _, rfl, rfl, rfl⟩
theorem sei : Statement .sei := ⟨_, _, rfl, rfl, rfl⟩
theorem adcAbsY (w : Word) : Statement (.adcAbsY w) := ⟨_, _, rfl, rfl, rfl⟩
theorem adcAbsX (w : Word) : Statement (.adcAbsX w) := ⟨_, _, rfl, rfl, rfl⟩
theorem rorAbsX (w : Word) : Statement (.rorAbsX w) := ⟨_, _, rfl, rfl, rfl⟩
theorem staIndX (d : Byte) : Statement (.staIndX d) := ⟨_, _, rfl, rfl, rfl⟩
theorem styZp (d : Byte) : Statement (.styZp d) := ⟨_, _, rfl, rfl, rfl⟩
theorem staZp (d : Byte) : Statement (.staZp d) := ⟨_, _, rfl, rfl, rfl⟩
theorem stxZp (d : Byte) : Statement (.stxZp d) := ⟨_, _, rfl, rfl, rfl⟩
theorem dey : Statement .dey := ⟨_, _, rfl, rfl, rfl⟩
theorem txa : Statement .txa := ⟨_, _, rfl, rfl, rfl⟩
theorem styAbs (w : Word) : Statement (.styAbs w) := ⟨_, _, rfl, rfl, rfl⟩
theorem staAbs (w : Word) : Statement (.staAbs w) := ⟨_, _, rfl, rfl, rfl⟩
theorem stxAbs (w : Word) : Statement (.stxAbs w) := ⟨_, _, rfl, rfl, rfl⟩
theorem bcc (o : Byte) : Statement (.bcc o) := ⟨_, _, rfl, rfl, rfl⟩
theorem staIndY (d : Byte) : Statement (.staIndY d) := ⟨_, _, rfl, rfl, rfl⟩
theorem styZpX (d : Byte) : Statement (.styZpX d) := ⟨_, _, rfl, rfl, rfl⟩
theorem staZpX (d : Byte) : Statement (.staZpX d) := ⟨_, _, rfl, rfl, rfl⟩
theorem stxZpY (d : Byte) : Statement (.stxZpY d) := ⟨_, _, rfl, rfl, rfl⟩
theorem tya : Statement .tya := ⟨_, _, rfl, rfl, rfl⟩
theorem staAbsY (w : Word) : Statement (.staAbsY w) := ⟨_, _, rfl, rfl, rfl⟩
theorem txs : Statement .txs := ⟨_, _, rfl, rfl, rfl⟩
theorem staAbsX (w : Word) : Statement (.staAbsX w) := ⟨_, _, rfl, rfl, rfl⟩
theorem ldyImm (v : Byte) : Statement (.ldyImm v) := ⟨_, _, rfl, rfl, rfl⟩
theorem ldaIndX (d : Byte) : Statement (.ldaIndX d) := ⟨_, _, rfl, rfl, rfl⟩
theorem ldxImm (v : Byte) : Statement (.ldxImm v) := ⟨_, _, rfl, rfl, rfl⟩
theorem ldyZp (d : Byte) : Statement (.ldyZp d) := ⟨_, _, rfl, rfl, rfl⟩
theorem ldaZp (d : Byte) : Statement (.ldaZp d) := ⟨_, _, rfl, rfl, rfl⟩
theorem ldxZp (d : Byte) : Statement (.ldxZp d) := ⟨_, _, rfl, rfl, rfl⟩
theorem tay : Statement .tay := ⟨_, _, rfl, rfl, rfl⟩
theorem ldaImm (v : Byte) : Statement (.ldaImm v) := ⟨_, _, rfl, rfl, rfl⟩
theorem tax : Statement .tax := ⟨_, _, rfl, rfl, rfl⟩
theorem ldyAbs (w : Word) : Statement (.ldyAbs w) := ⟨_, _, rfl, rfl, rfl⟩
theorem ldaAbs (w : Word) : Statement (.ldaAbs w) := ⟨_, _, rfl, rfl, rfl⟩
theorem ldxAbs (w : Word) : Statement (.ldxAbs w) := ⟨_, _, rfl, rfl, rfl⟩
theorem bcs (o : Byte) : Statement (.bcs o) := ⟨_, _, rfl, rfl, rfl⟩
theorem ldaIndY (d : Byte) : Statement (.ldaIndY d) := ⟨_, _, rfl, rfl, rfl⟩
theorem ldyZpX (d : Byte) : Statement (.ldyZpX d) := ⟨_, _, rfl, rfl, rfl⟩
theorem ldaZpX (d : Byte) : Statement (.ldaZpX d) := ⟨_, _, rfl, rfl, rfl⟩
theorem ldxZpY (d : Byte) : Statement (.ldxZpY d) := ⟨_, _, rfl, rfl, rfl⟩
theorem clv : Statement .clv := ⟨_, _, rfl, rfl, rfl⟩
theorem ldaAbsY (w : Word) : Statement (.ldaAbsY w) := ⟨_, _, rfl, rfl, rfl⟩
theorem tsx : Statement .tsx := ⟨_, _, rfl, rfl, rfl⟩
theorem ldyAbsX (w : Word) : Statement (.ldyAbsX w) := ⟨_, _, rfl, rfl, rfl⟩
theorem ldaAbsX (w : Word) : Statement (.ldaAbsX w) := ⟨_, _, rfl, rfl, rfl⟩
theorem ldxAbsY (w : Word) : Statement (.ldxAbsY w) := ⟨_, _, rfl, rfl, rfl⟩
theorem cpyImm (v : Byte) : Statement (.cpyImm v) := ⟨_, _, rfl, rfl, rfl⟩
theorem cmpIndX (d : Byte) : Statement (.cmpIndX d) := ⟨_, _, rfl, rfl, rfl⟩
theorem cpyZp (d : Byte) : Statement (.cpyZp d) := ⟨_, _, rfl, rfl, rfl⟩
theorem cmpZp (d : Byte) : Statement (.cmpZp d) := ⟨_, _, rfl, rfl, rfl⟩
theorem decZp (d : Byte) : Statement (.decZp d) := ⟨_, _, rfl, rfl, rfl⟩
theorem iny : Statement .iny := ⟨_, _, rfl, rfl, rfl⟩
theorem cmpImm (v : Byte) : Statement (.cmpImm v) := ⟨_, _, rfl, rfl, rfl⟩
theorem dex : Statement .dex := ⟨_, _, rfl, rfl, rfl⟩
theorem cpyAbs (w : Word) : Statement (.cpyAbs w) := ⟨_, _, rfl, rfl, rfl⟩
theorem cmpAbs (w : Word) : Statement (.cmpAbs w) := ⟨_, _, rfl, rfl, rfl⟩
theorem decAbs (w : Word) : Statement (.decAbs w) := ⟨_, _, rfl, rfl, rfl⟩
theorem bne (o : Byte) : Statement (.bne o) := ⟨_, _, rfl, rfl, rfl⟩
theorem cmpIndY (d : Byte) : Statement (.cmpIndY d) := ⟨_, _, rfl, rfl, rfl⟩
theorem cmpZpX (d : Byte) : Statement (.cmpZpX d) := ⟨_, _, rfl, rfl, rfl⟩
theorem decZpX (d : Byte) : Statement (.decZpX d) := ⟨_, _, rfl, rfl, rfl⟩
theorem cld : Statement .cld := ⟨_, _, rfl, rfl, rfl⟩
theorem cmpAbsY (w : Word) : Statement (.cmpAbsY w) := ⟨_, _, rfl, rfl, rfl⟩
theorem cmpAbsX (w : Word) : Statement (.cmpAbsX w) := ⟨_, _, rfl, rfl, rfl⟩
theorem decAbsX (w : Word) : Statement (.decAbsX w) := ⟨_, _, rfl, rfl, rfl⟩
theorem cpxImm (v : Byte) : Statement (.cpxImm v) := ⟨_, _, rfl, rfl, rfl⟩
theorem sbcIndX (d : Byte) : Statement (.sbcIndX d) := ⟨_, _, rfl, rfl, rfl⟩
theorem cpxZp (d : Byte) : Statement (.cpxZp d) := ⟨_, _, rfl, rfl, rfl⟩
theorem sbcZp (d : Byte) : Statement (.sbcZp d) := ⟨_, _, rfl, rfl, rfl⟩
theorem incZp (d : Byte) : Statement (.incZp d) := ⟨_, _, rfl, rfl, rfl⟩
theorem inx : Statement .inx := ⟨_, _, rfl, rfl, rfl⟩
theorem sbcImm (v : Byte) : Statement (.sbcImm v) := ⟨_, _, rfl, rfl, rfl⟩
theorem nop : Statement .nop := ⟨_, _, rfl, rfl, rfl⟩
theorem cpxAbs (w : Word) : Statement (.cpxAbs w) := ⟨_, _, rfl, rfl, rfl⟩
theorem sbcAbs (w : Word) : Statement (.sbcAbs w) := ⟨_, _, rfl, rfl, rfl⟩
theorem incAbs (w : Word) : Statement (.incAbs w) := ⟨_, _, rfl, rfl, rfl⟩
theorem beq (o : Byte) : Statement (.beq o) := ⟨_, _, rfl, rfl, rfl⟩
theorem sbcIndY (d : Byte) : Statement (.sbcIndY d) := ⟨_, _, rfl, rfl, rfl⟩
theorem sbcZpX (d : Byte) : Statement (.sbcZpX d) := ⟨_, _, rfl, rfl, rfl⟩
theorem incZpX (d : Byte) : Statement (.incZpX d) := ⟨_, _, rfl, rfl, rfl⟩
theorem sed : Statement .sed := ⟨_, _, rfl, rfl, rfl⟩
theorem sbcAbsY (w : Word) : Statement (.sbcAbsY w) := ⟨_, _, rfl, rfl, rfl⟩
theorem sbcAbsX (w : Word) : Statement (.sbcAbsX w) := ⟨_, _, rfl, rfl, rfl⟩
theorem incAbsX (w : Word) : Statement (.incAbsX w) := ⟨_, _, rfl, rfl, rfl⟩

end Sys2Proof.Laws.EncodedLength
end

