-- ==== Sys2Proof/Tests/Slice0.lean ====
section
/-!
SUPPORT. Tests: what the syntax's checks refuse, the decoding of a word of every constructor, one-step vectors from
95_test_vectors.md, and a witness for the hypotheses of every statement of Certificates/Slice0/Obligations.lean that has some.
-/
namespace Sys2Proof.Tests

open Sys2Proof.Machine

/-! ### Helpers -/

/-- Store a list of bytes of CPU memory. -/
def withCells : List (Nat × Byte) → State → State
  | [], s => s
  | (p, v) :: rest, s => withCells rest (putCpuByte p v s)

/-- The host presents this input at the next breakpoint check. -/
def presenting (d : DebugInput) (s : State) : State := s.setHost { s.host with checks := [d] }

/-- No breakpoint, no command, no tracing. -/
def quiet : DebugInput := { breakpoints := [], command := none, tracing := false }

/-- Registers, RAM bytes, and code at 0x8000 with PC there, and a quiet host at the next check; everything else as after reset. -/
def program (a x y sp p : Byte) (e : ExtraCycles) (cells : List (Nat × Byte)) (code : List Byte) : State :=
  let s := presenting quiet (putCpuBytes 0x8000 code (withCells cells State.reset))
  { s with
    cpu := { a := a, x := x, y := y, sp := sp, pc := 0x8000#16, p := p, cycles := 0 }
    params := { mirroring := .vertical, extraCycles := e } }

/-- Code at 0x8000, registers as after reset. -/
def start (code : List Byte) : State := program 0x00#8 0x00#8 0x00#8 0xFD#8 0x24#8 .baseOnly [] code

/-- `start []` inside VBlank, with CTRL given. -/
def inVBlank (ctrl : Byte) : State :=
  let s := start []
  s.setPpu { s.ppu with ctrl := ctrl, status := 0x80#8 }

/-- Two ADDR writes. -/
def address (hi lo : Byte) (s : State) : State := cpuWrite 0x2006#16 lo (cpuWrite 0x2006#16 hi s)

def cpuIs (a x y sp p : Byte) (pc : Word) (cycles : Nat) : Cpu :=
  { a := a, x := x, y := y, sp := sp, pc := pc, p := p, cycles := cycles }

/-- The state after one step. -/
def after (s : State) : Option State :=
  match step s with
  | .next t => some t
  | .fault _ => none
  | .refused _ => none

def cpuAfter (s : State) : Option Cpu := (after s).map (·.cpu)
def byteAfter (p : Nat) (s : State) : Option Byte := (after s).map (·.cpuByte p)
def ctrlAfter (s : State) : Option Byte := (after s).map (·.ppu.ctrl)
def statusAfter (s : State) : Option Byte := (after s).map (·.ppu.status)
def cycleAfter (s : State) : Option Nat := (after s).map (·.ppu.cycle)
def driverAfter (s : State) : Option Driver := (after s).map (·.driver)
def diagAfter (s : State) : Option Diag := (after s).map (·.diag)

/-! ### What the checks of the syntax refuse (30_encoding.md R129) -/

/-- A branch one byte beyond its reach on either side is refused, at its reach it is not. -/
theorem test_branch_offset_range :
    branchOffset 0x8000 0x8081 = some 0x7F#8 ∧ branchOffset 0x8000 0x8082 = none ∧
    branchOffset 0x8000 0x7F82 = some 0x80#8 ∧ branchOffset 0x8000 0x7F81 = none := by decide

/-- Bytes that are no instruction: an illegal opcode, and an instruction cut short. -/
theorem test_decode_refuses :
    decode [0x02#8, 0x00#8] = .illegalOpcode 0x02#8 ∧ decode [0x8D#8, 0x00#8] = .truncated := by decide

/-! ### Decoding -/

/-- Row 0 of the opcode map (30_encoding.md R125, R126): operand bytes 0x9C, or 0x5A and 0xC3. -/
theorem test_decode_row_0 :
    decodeTableWord 8 0b00000000 = some .brk ∧
    decodeTableWord 16 0b1001110000000001 = some (.oraIndX 0x9C#8) ∧
    decodeTableWord 16 0b1001110000000101 = some (.oraZp 0x9C#8) ∧
    decodeTableWord 16 0b1001110000000110 = some (.aslZp 0x9C#8) ∧
    decodeTableWord 8 0b00001000 = some .php ∧
    decodeTableWord 16 0b1001110000001001 = some (.oraImm 0x9C#8) ∧
    decodeTableWord 8 0b00001010 = some .aslAcc ∧
    decodeTableWord 24 0b110000110101101000001101 = some (.oraAbs 0xC35A#16) ∧
    decodeTableWord 24 0b110000110101101000001110 = some (.aslAbs 0xC35A#16) := by decide

/-- Row 1 of the opcode map (30_encoding.md R125, R126): operand bytes 0x9C, or 0x5A and 0xC3. -/
theorem test_decode_row_1 :
    decodeTableWord 16 0b1001110000010000 = some (.bpl 0x9C#8) ∧
    decodeTableWord 16 0b1001110000010001 = some (.oraIndY 0x9C#8) ∧
    decodeTableWord 16 0b1001110000010101 = some (.oraZpX 0x9C#8) ∧
    decodeTableWord 16 0b1001110000010110 = some (.aslZpX 0x9C#8) ∧
    decodeTableWord 8 0b00011000 = some .clc ∧
    decodeTableWord 24 0b110000110101101000011001 = some (.oraAbsY 0xC35A#16) ∧
    decodeTableWord 24 0b110000110101101000011101 = some (.oraAbsX 0xC35A#16) ∧
    decodeTableWord 24 0b110000110101101000011110 = some (.aslAbsX 0xC35A#16) := by decide

/-- Row 2 of the opcode map (30_encoding.md R125, R126): operand bytes 0x9C, or 0x5A and 0xC3. -/
theorem test_decode_row_2 :
    decodeTableWord 24 0b110000110101101000100000 = some (.jsr 0xC35A#16) ∧
    decodeTableWord 16 0b1001110000100001 = some (.andIndX 0x9C#8) ∧
    decodeTableWord 16 0b1001110000100100 = some (.bitZp 0x9C#8) ∧
    decodeTableWord 16 0b1001110000100101 = some (.andZp 0x9C#8) ∧
    decodeTableWord 16 0b1001110000100110 = some (.rolZp 0x9C#8) ∧
    decodeTableWord 8 0b00101000 = some .plp ∧
    decodeTableWord 16 0b1001110000101001 = some (.andImm 0x9C#8) ∧
    decodeTableWord 8 0b00101010 = some .rolAcc ∧
    decodeTableWord 24 0b110000110101101000101100 = some (.bitAbs 0xC35A#16) ∧
    decodeTableWord 24 0b110000110101101000101101 = some (.andAbs 0xC35A#16) ∧
    decodeTableWord 24 0b110000110101101000101110 = some (.rolAbs 0xC35A#16) := by decide

/-- Row 3 of the opcode map (30_encoding.md R125, R126): operand bytes 0x9C, or 0x5A and 0xC3. -/
theorem test_decode_row_3 :
    decodeTableWord 16 0b1001110000110000 = some (.bmi 0x9C#8) ∧
    decodeTableWord 16 0b1001110000110001 = some (.andIndY 0x9C#8) ∧
    decodeTableWord 16 0b1001110000110101 = some (.andZpX 0x9C#8) ∧
    decodeTableWord 16 0b1001110000110110 = some (.rolZpX 0x9C#8) ∧
    decodeTableWord 8 0b00111000 = some .sec ∧
    decodeTableWord 24 0b110000110101101000111001 = some (.andAbsY 0xC35A#16) ∧
    decodeTableWord 24 0b110000110101101000111101 = some (.andAbsX 0xC35A#16) ∧
    decodeTableWord 24 0b110000110101101000111110 = some (.rolAbsX 0xC35A#16) := by decide

/-- Row 4 of the opcode map (30_encoding.md R125, R126): operand bytes 0x9C, or 0x5A and 0xC3. -/
theorem test_decode_row_4 :
    decodeTableWord 8 0b01000000 = some .rti ∧
    decodeTableWord 16 0b1001110001000001 = some (.eorIndX 0x9C#8) ∧
    decodeTableWord 16 0b1001110001000101 = some (.eorZp 0x9C#8) ∧
    decodeTableWord 16 0b1001110001000110 = some (.lsrZp 0x9C#8) ∧
    decodeTableWord 8 0b01001000 = some .pha ∧
    decodeTableWord 16 0b1001110001001001 = some (.eorImm 0x9C#8) ∧
    decodeTableWord 8 0b01001010 = some .lsrAcc ∧
    decodeTableWord 24 0b110000110101101001001100 = some (.jmpAbs 0xC35A#16) ∧
    decodeTableWord 24 0b110000110101101001001101 = some (.eorAbs 0xC35A#16) ∧
    decodeTableWord 24 0b110000110101101001001110 = some (.lsrAbs 0xC35A#16) := by decide

/-- Row 5 of the opcode map (30_encoding.md R125, R126): operand bytes 0x9C, or 0x5A and 0xC3. -/
theorem test_decode_row_5 :
    decodeTableWord 16 0b1001110001010000 = some (.bvc 0x9C#8) ∧
    decodeTableWord 16 0b1001110001010001 = some (.eorIndY 0x9C#8) ∧
    decodeTableWord 16 0b1001110001010101 = some (.eorZpX 0x9C#8) ∧
    decodeTableWord 16 0b1001110001010110 = some (.lsrZpX 0x9C#8) ∧
    decodeTableWord 8 0b01011000 = some .cli ∧
    decodeTableWord 24 0b110000110101101001011001 = some (.eorAbsY 0xC35A#16) ∧
    decodeTableWord 24 0b110000110101101001011101 = some (.eorAbsX 0xC35A#16) ∧
    decodeTableWord 24 0b110000110101101001011110 = some (.lsrAbsX 0xC35A#16) := by decide

/-- Row 6 of the opcode map (30_encoding.md R125, R126): operand bytes 0x9C, or 0x5A and 0xC3. -/
theorem test_decode_row_6 :
    decodeTableWord 8 0b01100000 = some .rts ∧
    decodeTableWord 16 0b1001110001100001 = some (.adcIndX 0x9C#8) ∧
    decodeTableWord 16 0b1001110001100101 = some (.adcZp 0x9C#8) ∧
    decodeTableWord 16 0b1001110001100110 = some (.rorZp 0x9C#8) ∧
    decodeTableWord 8 0b01101000 = some .pla ∧
    decodeTableWord 16 0b1001110001101001 = some (.adcImm 0x9C#8) ∧
    decodeTableWord 8 0b01101010 = some .rorAcc ∧
    decodeTableWord 24 0b110000110101101001101100 = some (.jmpInd 0xC35A#16) ∧
    decodeTableWord 24 0b110000110101101001101101 = some (.adcAbs 0xC35A#16) ∧
    decodeTableWord 24 0b110000110101101001101110 = some (.rorAbs 0xC35A#16) := by decide

/-- Row 7 of the opcode map (30_encoding.md R125, R126): operand bytes 0x9C, or 0x5A and 0xC3. -/
theorem test_decode_row_7 :
    decodeTableWord 16 0b1001110001110000 = some (.bvs 0x9C#8) ∧
    decodeTableWord 16 0b1001110001110001 = some (.adcIndY 0x9C#8) ∧
    decodeTableWord 16 0b1001110001110101 = some (.adcZpX 0x9C#8) ∧
    decodeTableWord 16 0b1001110001110110 = some (.rorZpX 0x9C#8) ∧
    decodeTableWord 8 0b01111000 = some .sei ∧
    decodeTableWord 24 0b110000110101101001111001 = some (.adcAbsY 0xC35A#16) ∧
    decodeTableWord 24 0b110000110101101001111101 = some (.adcAbsX 0xC35A#16) ∧
    decodeTableWord 24 0b110000110101101001111110 = some (.rorAbsX 0xC35A#16) := by decide

/-- Row 8 of the opcode map (30_encoding.md R125, R126): operand bytes 0x9C, or 0x5A and 0xC3. -/
theorem test_decode_row_8 :
    decodeTableWord 16 0b1001110010000001 = some (.staIndX 0x9C#8) ∧
    decodeTableWord 16 0b1001110010000100 = some (.styZp 0x9C#8) ∧
    decodeTableWord 16 0b1001110010000101 = some (.staZp 0x9C#8) ∧
    decodeTableWord 16 0b1001110010000110 = some (.stxZp 0x9C#8) ∧
    decodeTableWord 8 0b10001000 = some .dey ∧
    decodeTableWord 8 0b10001010 = some .txa ∧
    decodeTableWord 24 0b110000110101101010001100 = some (.styAbs 0xC35A#16) ∧
    decodeTableWord 24 0b110000110101101010001101 = some (.staAbs 0xC35A#16) ∧
    decodeTableWord 24 0b110000110101101010001110 = some (.stxAbs 0xC35A#16) := by decide

/-- Row 9 of the opcode map (30_encoding.md R125, R126): operand bytes 0x9C, or 0x5A and 0xC3. -/
theorem test_decode_row_9 :
    decodeTableWord 16 0b1001110010010000 = some (.bcc 0x9C#8) ∧
    decodeTableWord 16 0b1001110010010001 = some (.staIndY 0x9C#8) ∧
    decodeTableWord 16 0b1001110010010100 = some (.styZpX 0x9C#8) ∧
    decodeTableWord 16 0b1001110010010101 = some (.staZpX 0x9C#8) ∧
    decodeTableWord 16 0b1001110010010110 = some (.stxZpY 0x9C#8) ∧
    decodeTableWord 8 0b10011000 = some .tya ∧
    decodeTableWord 24 0b110000110101101010011001 = some (.staAbsY 0xC35A#16) ∧
    decodeTableWord 8 0b10011010 = some .txs ∧
    decodeTableWord 24 0b110000110101101010011101 = some (.staAbsX 0xC35A#16) := by decide

/-- Row A of the opcode map (30_encoding.md R125, R126): operand bytes 0x9C, or 0x5A and 0xC3. -/
theorem test_decode_row_A :
    decodeTableWord 16 0b1001110010100000 = some (.ldyImm 0x9C#8) ∧
    decodeTableWord 16 0b1001110010100001 = some (.ldaIndX 0x9C#8) ∧
    decodeTableWord 16 0b1001110010100010 = some (.ldxImm 0x9C#8) ∧
    decodeTableWord 16 0b1001110010100100 = some (.ldyZp 0x9C#8) ∧
    decodeTableWord 16 0b1001110010100101 = some (.ldaZp 0x9C#8) ∧
    decodeTableWord 16 0b1001110010100110 = some (.ldxZp 0x9C#8) ∧
    decodeTableWord 8 0b10101000 = some .tay ∧
    decodeTableWord 16 0b1001110010101001 = some (.ldaImm 0x9C#8) ∧
    decodeTableWord 8 0b10101010 = some .tax ∧
    decodeTableWord 24 0b110000110101101010101100 = some (.ldyAbs 0xC35A#16) ∧
    decodeTableWord 24 0b110000110101101010101101 = some (.ldaAbs 0xC35A#16) ∧
    decodeTableWord 24 0b110000110101101010101110 = some (.ldxAbs 0xC35A#16) := by decide

/-- Row B of the opcode map (30_encoding.md R125, R126): operand bytes 0x9C, or 0x5A and 0xC3. -/
theorem test_decode_row_B :
    decodeTableWord 16 0b1001110010110000 = some (.bcs 0x9C#8) ∧
    decodeTableWord 16 0b1001110010110001 = some (.ldaIndY 0x9C#8) ∧
    decodeTableWord 16 0b1001110010110100 = some (.ldyZpX 0x9C#8) ∧
    decodeTableWord 16 0b1001110010110101 = some (.ldaZpX 0x9C#8) ∧
    decodeTableWord 16 0b1001110010110110 = some (.ldxZpY 0x9C#8) ∧
    decodeTableWord 8 0b10111000 = some .clv ∧
    decodeTableWord 24 0b110000110101101010111001 = some (.ldaAbsY 0xC35A#16) ∧
    decodeTableWord 8 0b10111010 = some .tsx ∧
    decodeTableWord 24 0b110000110101101010111100 = some (.ldyAbsX 0xC35A#16) ∧
    decodeTableWord 24 0b110000110101101010111101 = some (.ldaAbsX 0xC35A#16) ∧
    decodeTableWord 24 0b110000110101101010111110 = some (.ldxAbsY 0xC35A#16) := by decide

/-- Row C of the opcode map (30_encoding.md R125, R126): operand bytes 0x9C, or 0x5A and 0xC3. -/
theorem test_decode_row_C :
    decodeTableWord 16 0b1001110011000000 = some (.cpyImm 0x9C#8) ∧
    decodeTableWord 16 0b1001110011000001 = some (.cmpIndX 0x9C#8) ∧
    decodeTableWord 16 0b1001110011000100 = some (.cpyZp 0x9C#8) ∧
    decodeTableWord 16 0b1001110011000101 = some (.cmpZp 0x9C#8) ∧
    decodeTableWord 16 0b1001110011000110 = some (.decZp 0x9C#8) ∧
    decodeTableWord 8 0b11001000 = some .iny ∧
    decodeTableWord 16 0b1001110011001001 = some (.cmpImm 0x9C#8) ∧
    decodeTableWord 8 0b11001010 = some .dex ∧
    decodeTableWord 24 0b110000110101101011001100 = some (.cpyAbs 0xC35A#16) ∧
    decodeTableWord 24 0b110000110101101011001101 = some (.cmpAbs 0xC35A#16) ∧
    decodeTableWord 24 0b110000110101101011001110 = some (.decAbs 0xC35A#16) := by decide

/-- Row D of the opcode map (30_encoding.md R125, R126): operand bytes 0x9C, or 0x5A and 0xC3. -/
theorem test_decode_row_D :
    decodeTableWord 16 0b1001110011010000 = some (.bne 0x9C#8) ∧
    decodeTableWord 16 0b1001110011010001 = some (.cmpIndY 0x9C#8) ∧
    decodeTableWord 16 0b1001110011010101 = some (.cmpZpX 0x9C#8) ∧
    decodeTableWord 16 0b1001110011010110 = some (.decZpX 0x9C#8) ∧
    decodeTableWord 8 0b11011000 = some .cld ∧
    decodeTableWord 24 0b110000110101101011011001 = some (.cmpAbsY 0xC35A#16) ∧
    decodeTableWord 24 0b110000110101101011011101 = some (.cmpAbsX 0xC35A#16) ∧
    decodeTableWord 24 0b110000110101101011011110 = some (.decAbsX 0xC35A#16) := by decide

/-- Row E of the opcode map (30_encoding.md R125, R126): operand bytes 0x9C, or 0x5A and 0xC3. -/
theorem test_decode_row_E :
    decodeTableWord 16 0b1001110011100000 = some (.cpxImm 0x9C#8) ∧
    decodeTableWord 16 0b1001110011100001 = some (.sbcIndX 0x9C#8) ∧
    decodeTableWord 16 0b1001110011100100 = some (.cpxZp 0x9C#8) ∧
    decodeTableWord 16 0b1001110011100101 = some (.sbcZp 0x9C#8) ∧
    decodeTableWord 16 0b1001110011100110 = some (.incZp 0x9C#8) ∧
    decodeTableWord 8 0b11101000 = some .inx ∧
    decodeTableWord 16 0b1001110011101001 = some (.sbcImm 0x9C#8) ∧
    decodeTableWord 8 0b11101010 = some .nop ∧
    decodeTableWord 24 0b110000110101101011101100 = some (.cpxAbs 0xC35A#16) ∧
    decodeTableWord 24 0b110000110101101011101101 = some (.sbcAbs 0xC35A#16) ∧
    decodeTableWord 24 0b110000110101101011101110 = some (.incAbs 0xC35A#16) := by decide

/-- Row F of the opcode map (30_encoding.md R125, R126): operand bytes 0x9C, or 0x5A and 0xC3. -/
theorem test_decode_row_F :
    decodeTableWord 16 0b1001110011110000 = some (.beq 0x9C#8) ∧
    decodeTableWord 16 0b1001110011110001 = some (.sbcIndY 0x9C#8) ∧
    decodeTableWord 16 0b1001110011110101 = some (.sbcZpX 0x9C#8) ∧
    decodeTableWord 16 0b1001110011110110 = some (.incZpX 0x9C#8) ∧
    decodeTableWord 8 0b11111000 = some .sed ∧
    decodeTableWord 24 0b110000110101101011111001 = some (.sbcAbsY 0xC35A#16) ∧
    decodeTableWord 24 0b110000110101101011111101 = some (.sbcAbsX 0xC35A#16) ∧
    decodeTableWord 24 0b110000110101101011111110 = some (.incAbsX 0xC35A#16) := by decide

/-! ### One step of each instruction, by 95_test_vectors.md -/

/-- 95_test_vectors.md TL9: `LDA ($FE,X)`. -/
theorem test_lda_TL9 :
    cpuAfter (program 0x00#8 0x01#8 0x00#8 0xFD#8 0x24#8 .baseOnly [(0x00FF, 0x34#8), (0x0000, 0x02#8), (0x0234, 0xAB#8)] [0xA1#8, 0xFE#8]) =
      some (cpuIs 0xAB#8 0x01#8 0x00#8 0xFD#8 0xA4#8 0x8002#16 6) := by decide

/-- 95_test_vectors.md TL10: `LDA ($FF),Y`. -/
theorem test_lda_TL10 :
    cpuAfter (program 0x00#8 0x00#8 0x01#8 0xFD#8 0x24#8 .nmos [(0x00FF, 0xFF#8), (0x0000, 0x02#8), (0x0300, 0xCD#8)] [0xB1#8, 0xFF#8]) =
      some (cpuIs 0xCD#8 0x00#8 0x01#8 0xFD#8 0xA4#8 0x8002#16 6) := by decide

/-- 95_test_vectors.md TL12: `LDX $10,Y`. -/
theorem test_ldx_TL12 :
    cpuAfter (program 0x00#8 0x00#8 0xF5#8 0xFD#8 0x24#8 .baseOnly [(0x0005, 0x80#8)] [0xB6#8, 0x10#8]) =
      some (cpuIs 0x00#8 0x80#8 0xF5#8 0xFD#8 0xA4#8 0x8002#16 4) := by decide

/-- 95_test_vectors.md TL13: `LDY #$00`. -/
theorem test_ldy_TL13 :
    cpuAfter (program 0x00#8 0x00#8 0x12#8 0xFD#8 0x24#8 .baseOnly [] [0xA0#8, 0x00#8]) =
      some (cpuIs 0x00#8 0x00#8 0x00#8 0xFD#8 0x26#8 0x8002#16 2) := by decide

/-- 95_test_vectors.md TL16: `STA $FF,X`. -/
theorem test_sta_TL16 :
    cpuAfter (program 0x3C#8 0x02#8 0x00#8 0xFD#8 0x24#8 .baseOnly [] [0x95#8, 0xFF#8]) =
      some (cpuIs 0x3C#8 0x02#8 0x00#8 0xFD#8 0x24#8 0x8002#16 4) ∧
    byteAfter 0x0001 (program 0x3C#8 0x02#8 0x00#8 0xFD#8 0x24#8 .baseOnly [] [0x95#8, 0xFF#8]) = some 0x3C#8 := by decide

/-- 95_test_vectors.md TL17: `STA ($20),Y`. -/
theorem test_sta_TL17 :
    cpuAfter (program 0x66#8 0x00#8 0x01#8 0xFD#8 0x24#8 .baseOnly [(0x0020, 0xFF#8), (0x0021, 0x03#8)] [0x91#8, 0x20#8]) =
      some (cpuIs 0x66#8 0x00#8 0x01#8 0xFD#8 0x24#8 0x8002#16 6) ∧
    byteAfter 0x0400 (program 0x66#8 0x00#8 0x01#8 0xFD#8 0x24#8 .baseOnly [(0x0020, 0xFF#8), (0x0021, 0x03#8)] [0x91#8, 0x20#8]) = some 0x66#8 := by decide

/-- 95_test_vectors.md TL18: `STX $10,Y`. -/
theorem test_stx_TL18 :
    cpuAfter (program 0x00#8 0xE1#8 0xFF#8 0xFD#8 0x24#8 .baseOnly [] [0x96#8, 0x10#8]) =
      some (cpuIs 0x00#8 0xE1#8 0xFF#8 0xFD#8 0x24#8 0x8002#16 4) ∧
    byteAfter 0x000F (program 0x00#8 0xE1#8 0xFF#8 0xFD#8 0x24#8 .baseOnly [] [0x96#8, 0x10#8]) = some 0xE1#8 := by decide

/-- 95_test_vectors.md TL19: `STY $0300`. -/
theorem test_sty_TL19 :
    cpuAfter (program 0x00#8 0x00#8 0x7B#8 0xFD#8 0x24#8 .baseOnly [] [0x8C#8, 0x00#8, 0x03#8]) =
      some (cpuIs 0x00#8 0x00#8 0x7B#8 0xFD#8 0x24#8 0x8003#16 4) ∧
    byteAfter 0x0300 (program 0x00#8 0x00#8 0x7B#8 0xFD#8 0x24#8 .baseOnly [] [0x8C#8, 0x00#8, 0x03#8]) = some 0x7B#8 := by decide

/-- 95_test_vectors.md TL20: `TAX`. -/
theorem test_tax_TL20 :
    cpuAfter (program 0x00#8 0x44#8 0x00#8 0xFD#8 0x24#8 .baseOnly [] [0xAA#8]) =
      some (cpuIs 0x00#8 0x00#8 0x00#8 0xFD#8 0x26#8 0x8001#16 2) := by decide

/-- 95_test_vectors.md TL21: `TAY`. -/
theorem test_tay_TL21 :
    cpuAfter (program 0xF0#8 0x00#8 0x00#8 0xFD#8 0x24#8 .baseOnly [] [0xA8#8]) =
      some (cpuIs 0xF0#8 0x00#8 0xF0#8 0xFD#8 0xA4#8 0x8001#16 2) := by decide

/-- 95_test_vectors.md TL22: `TXA`. -/
theorem test_txa_TL22 :
    cpuAfter (program 0xFF#8 0x01#8 0x00#8 0xFD#8 0xA4#8 .baseOnly [] [0x8A#8]) =
      some (cpuIs 0x01#8 0x01#8 0x00#8 0xFD#8 0x24#8 0x8001#16 2) := by decide

/-- 95_test_vectors.md TL23: `TYA`. -/
theorem test_tya_TL23 :
    cpuAfter (program 0x00#8 0x00#8 0x80#8 0xFD#8 0x24#8 .baseOnly [] [0x98#8]) =
      some (cpuIs 0x80#8 0x00#8 0x80#8 0xFD#8 0xA4#8 0x8001#16 2) := by decide

/-- 95_test_vectors.md TL24: `TSX`. -/
theorem test_tsx_TL24 :
    cpuAfter (program 0x00#8 0x00#8 0x00#8 0x80#8 0x24#8 .baseOnly [] [0xBA#8]) =
      some (cpuIs 0x00#8 0x80#8 0x00#8 0x80#8 0xA4#8 0x8001#16 2) := by decide

/-- 95_test_vectors.md TL25: `TXS`. -/
theorem test_txs_TL25 :
    cpuAfter (program 0x00#8 0x00#8 0x00#8 0xFD#8 0xA4#8 .baseOnly [] [0x9A#8]) =
      some (cpuIs 0x00#8 0x00#8 0x00#8 0x00#8 0xA4#8 0x8001#16 2) := by decide

/-- 95_test_vectors.md TA1: `ADC #$01`. -/
theorem test_adc_TA1 :
    cpuAfter (program 0x09#8 0x00#8 0x00#8 0xFD#8 0x2C#8 .baseOnly [] [0x69#8, 0x01#8]) =
      some (cpuIs 0x0A#8 0x00#8 0x00#8 0xFD#8 0x2C#8 0x8002#16 2) := by decide

/-- 95_test_vectors.md TA2: `ADC $10`. -/
theorem test_adc_TA2 :
    cpuAfter (program 0xFF#8 0x00#8 0x00#8 0xFD#8 0x24#8 .baseOnly [(0x0010, 0x01#8)] [0x65#8, 0x10#8]) =
      some (cpuIs 0x00#8 0x00#8 0x00#8 0xFD#8 0x27#8 0x8002#16 3) := by decide

/-- 95_test_vectors.md TA3: `SBC #$01`. -/
theorem test_sbc_TA3 :
    cpuAfter (program 0x00#8 0x00#8 0x00#8 0xFD#8 0x24#8 .baseOnly [] [0xE9#8, 0x01#8]) =
      some (cpuIs 0xFE#8 0x00#8 0x00#8 0xFD#8 0xA4#8 0x8002#16 2) := by decide

/-- 95_test_vectors.md TA4: `SBC #$00`. -/
theorem test_sbc_TA4 :
    cpuAfter (program 0x80#8 0x00#8 0x00#8 0xFD#8 0x24#8 .baseOnly [] [0xE9#8, 0x00#8]) =
      some (cpuIs 0x7F#8 0x00#8 0x00#8 0xFD#8 0x65#8 0x8002#16 2) := by decide

/-- 95_test_vectors.md TA5: `AND #$0F`. -/
theorem test_and_TA5 :
    cpuAfter (program 0xF0#8 0x00#8 0x00#8 0xFD#8 0x65#8 .baseOnly [] [0x29#8, 0x0F#8]) =
      some (cpuIs 0x00#8 0x00#8 0x00#8 0xFD#8 0x67#8 0x8002#16 2) := by decide

/-- 95_test_vectors.md TA6: `ORA #$80`. -/
theorem test_ora_TA6 :
    cpuAfter (program 0x01#8 0x00#8 0x00#8 0xFD#8 0x24#8 .baseOnly [] [0x09#8, 0x80#8]) =
      some (cpuIs 0x81#8 0x00#8 0x00#8 0xFD#8 0xA4#8 0x8002#16 2) := by decide

/-- 95_test_vectors.md TA7: `EOR #$FF`. -/
theorem test_eor_TA7 :
    cpuAfter (program 0xFF#8 0x00#8 0x00#8 0xFD#8 0x24#8 .baseOnly [] [0x49#8, 0xFF#8]) =
      some (cpuIs 0x00#8 0x00#8 0x00#8 0xFD#8 0x26#8 0x8002#16 2) := by decide

/-- 95_test_vectors.md TA8: `BIT $10`. -/
theorem test_bit_TA8 :
    cpuAfter (program 0x3F#8 0x00#8 0x00#8 0xFD#8 0x24#8 .baseOnly [(0x0010, 0xC0#8)] [0x24#8, 0x10#8]) =
      some (cpuIs 0x3F#8 0x00#8 0x00#8 0xFD#8 0xE6#8 0x8002#16 3) := by decide

/-- 95_test_vectors.md TA9: `BIT $0200`. -/
theorem test_bit_TA9 :
    cpuAfter (program 0x01#8 0x00#8 0x00#8 0xFD#8 0xE6#8 .baseOnly [(0x0200, 0x01#8)] [0x2C#8, 0x00#8, 0x02#8]) =
      some (cpuIs 0x01#8 0x00#8 0x00#8 0xFD#8 0x24#8 0x8003#16 4) := by decide

/-- 95_test_vectors.md TA11: `CMP #$41`. -/
theorem test_cmp_TA11 :
    cpuAfter (program 0x40#8 0x00#8 0x00#8 0xFD#8 0x24#8 .baseOnly [] [0xC9#8, 0x41#8]) =
      some (cpuIs 0x40#8 0x00#8 0x00#8 0xFD#8 0xA4#8 0x8002#16 2) := by decide

/-- 95_test_vectors.md TA13: `CMP #$80`. -/
theorem test_cmp_TA13 :
    cpuAfter (program 0x00#8 0x00#8 0x00#8 0xFD#8 0x24#8 .baseOnly [] [0xC9#8, 0x80#8]) =
      some (cpuIs 0x00#8 0x00#8 0x00#8 0xFD#8 0xA4#8 0x8002#16 2) := by decide

/-- 95_test_vectors.md TA14: `CPX #$FF`. -/
theorem test_cpx_TA14 :
    cpuAfter (program 0x00#8 0xFF#8 0x00#8 0xFD#8 0x24#8 .baseOnly [] [0xE0#8, 0xFF#8]) =
      some (cpuIs 0x00#8 0xFF#8 0x00#8 0xFD#8 0x27#8 0x8002#16 2) := by decide

/-- 95_test_vectors.md TA15: `CPY $10`. -/
theorem test_cpy_TA15 :
    cpuAfter (program 0x00#8 0x00#8 0x10#8 0xFD#8 0x24#8 .baseOnly [(0x0010, 0x0F#8)] [0xC4#8, 0x10#8]) =
      some (cpuIs 0x00#8 0x00#8 0x10#8 0xFD#8 0x25#8 0x8002#16 3) := by decide

/-- 95_test_vectors.md TA16: `INC $10`. -/
theorem test_inc_TA16 :
    cpuAfter (program 0x00#8 0x00#8 0x00#8 0xFD#8 0x25#8 .baseOnly [(0x0010, 0xFF#8)] [0xE6#8, 0x10#8]) =
      some (cpuIs 0x00#8 0x00#8 0x00#8 0xFD#8 0x27#8 0x8002#16 5) ∧
    byteAfter 0x0010 (program 0x00#8 0x00#8 0x00#8 0xFD#8 0x25#8 .baseOnly [(0x0010, 0xFF#8)] [0xE6#8, 0x10#8]) = some 0x00#8 := by decide

/-- 95_test_vectors.md TA17: `INC $2000`. -/
theorem test_inc_TA17 :
    cpuAfter (program 0x00#8 0x00#8 0x00#8 0xFD#8 0x24#8 .baseOnly [] [0xEE#8, 0x00#8, 0x20#8]) =
      some (cpuIs 0x00#8 0x00#8 0x00#8 0xFD#8 0x24#8 0x8003#16 6) ∧
    ctrlAfter (program 0x00#8 0x00#8 0x00#8 0xFD#8 0x24#8 .baseOnly [] [0xEE#8, 0x00#8, 0x20#8]) = some 0x01#8 := by decide

/-- 95_test_vectors.md TA18: `DEC $10,X`. -/
theorem test_dec_TA18 :
    cpuAfter (program 0x00#8 0x01#8 0x00#8 0xFD#8 0x24#8 .baseOnly [(0x0011, 0x00#8)] [0xD6#8, 0x10#8]) =
      some (cpuIs 0x00#8 0x01#8 0x00#8 0xFD#8 0xA4#8 0x8002#16 6) ∧
    byteAfter 0x0011 (program 0x00#8 0x01#8 0x00#8 0xFD#8 0x24#8 .baseOnly [(0x0011, 0x00#8)] [0xD6#8, 0x10#8]) = some 0xFF#8 := by decide

/-- 95_test_vectors.md TA19: `INX`. -/
theorem test_inx_TA19 :
    cpuAfter (program 0x00#8 0xFF#8 0x00#8 0xFD#8 0x24#8 .baseOnly [] [0xE8#8]) =
      some (cpuIs 0x00#8 0x00#8 0x00#8 0xFD#8 0x26#8 0x8001#16 2) := by decide

/-- 95_test_vectors.md TA20: `INY`. -/
theorem test_iny_TA20 :
    cpuAfter (program 0x00#8 0x00#8 0x7F#8 0xFD#8 0x24#8 .baseOnly [] [0xC8#8]) =
      some (cpuIs 0x00#8 0x00#8 0x80#8 0xFD#8 0xA4#8 0x8001#16 2) := by decide

/-- 95_test_vectors.md TA21: `DEX`. -/
theorem test_dex_TA21 :
    cpuAfter (program 0x00#8 0x00#8 0x00#8 0xFD#8 0x24#8 .baseOnly [] [0xCA#8]) =
      some (cpuIs 0x00#8 0xFF#8 0x00#8 0xFD#8 0xA4#8 0x8001#16 2) := by decide

/-- 95_test_vectors.md TA22: `DEY`. -/
theorem test_dey_TA22 :
    cpuAfter (program 0x00#8 0x00#8 0x01#8 0xFD#8 0x24#8 .baseOnly [] [0x88#8]) =
      some (cpuIs 0x00#8 0x00#8 0x00#8 0xFD#8 0x26#8 0x8001#16 2) := by decide

/-- 95_test_vectors.md TS1: `ASL A`. -/
theorem test_asl_TS1 :
    cpuAfter (program 0x80#8 0x00#8 0x00#8 0xFD#8 0x24#8 .baseOnly [] [0x0A#8]) =
      some (cpuIs 0x00#8 0x00#8 0x00#8 0xFD#8 0x27#8 0x8001#16 2) := by decide

/-- 95_test_vectors.md TS2: `ASL $10`. -/
theorem test_asl_TS2 :
    cpuAfter (program 0x00#8 0x00#8 0x00#8 0xFD#8 0x24#8 .baseOnly [(0x0010, 0x41#8)] [0x06#8, 0x10#8]) =
      some (cpuIs 0x00#8 0x00#8 0x00#8 0xFD#8 0xA4#8 0x8002#16 5) ∧
    byteAfter 0x0010 (program 0x00#8 0x00#8 0x00#8 0xFD#8 0x24#8 .baseOnly [(0x0010, 0x41#8)] [0x06#8, 0x10#8]) = some 0x82#8 := by decide

/-- 95_test_vectors.md TS3: `LSR A`. -/
theorem test_lsr_TS3 :
    cpuAfter (program 0x01#8 0x00#8 0x00#8 0xFD#8 0xA4#8 .baseOnly [] [0x4A#8]) =
      some (cpuIs 0x00#8 0x00#8 0x00#8 0xFD#8 0x27#8 0x8001#16 2) := by decide

/-- 95_test_vectors.md TS4: `LSR $0200,X`. -/
theorem test_lsr_TS4 :
    cpuAfter (program 0x00#8 0x01#8 0x00#8 0xFD#8 0x24#8 .baseOnly [(0x0201, 0xFF#8)] [0x5E#8, 0x00#8, 0x02#8]) =
      some (cpuIs 0x00#8 0x01#8 0x00#8 0xFD#8 0x25#8 0x8003#16 7) ∧
    byteAfter 0x0201 (program 0x00#8 0x01#8 0x00#8 0xFD#8 0x24#8 .baseOnly [(0x0201, 0xFF#8)] [0x5E#8, 0x00#8, 0x02#8]) = some 0x7F#8 := by decide

/-- 95_test_vectors.md TS5: `ROL A`. -/
theorem test_rol_TS5 :
    cpuAfter (program 0x80#8 0x00#8 0x00#8 0xFD#8 0x25#8 .baseOnly [] [0x2A#8]) =
      some (cpuIs 0x01#8 0x00#8 0x00#8 0xFD#8 0x25#8 0x8001#16 2) := by decide

/-- 95_test_vectors.md TS6: `ROL $10,X`. -/
theorem test_rol_TS6 :
    cpuAfter (program 0x00#8 0x00#8 0x00#8 0xFD#8 0x24#8 .baseOnly [(0x0010, 0x40#8)] [0x36#8, 0x10#8]) =
      some (cpuIs 0x00#8 0x00#8 0x00#8 0xFD#8 0xA4#8 0x8002#16 6) ∧
    byteAfter 0x0010 (program 0x00#8 0x00#8 0x00#8 0xFD#8 0x24#8 .baseOnly [(0x0010, 0x40#8)] [0x36#8, 0x10#8]) = some 0x80#8 := by decide

/-- 95_test_vectors.md TS7: `ROR A`. -/
theorem test_ror_TS7 :
    cpuAfter (program 0x00#8 0x00#8 0x00#8 0xFD#8 0x25#8 .baseOnly [] [0x6A#8]) =
      some (cpuIs 0x80#8 0x00#8 0x00#8 0xFD#8 0xA4#8 0x8001#16 2) := by decide

/-- 95_test_vectors.md TS8: `ROR $0300`. -/
theorem test_ror_TS8 :
    cpuAfter (program 0x00#8 0x00#8 0x00#8 0xFD#8 0x24#8 .baseOnly [(0x0300, 0x01#8)] [0x6E#8, 0x00#8, 0x03#8]) =
      some (cpuIs 0x00#8 0x00#8 0x00#8 0xFD#8 0x27#8 0x8003#16 6) ∧
    byteAfter 0x0300 (program 0x00#8 0x00#8 0x00#8 0xFD#8 0x24#8 .baseOnly [(0x0300, 0x01#8)] [0x6E#8, 0x00#8, 0x03#8]) = some 0x00#8 := by decide

/-- 95_test_vectors.md TB1: `BCC $8010`. -/
theorem test_bcc_TB1 :
    cpuAfter (program 0x00#8 0x00#8 0x00#8 0xFD#8 0x24#8 .nmos [] [0x90#8, 0x0E#8]) =
      some (cpuIs 0x00#8 0x00#8 0x00#8 0xFD#8 0x24#8 0x8010#16 3) := by decide

/-- 95_test_vectors.md TB2: `BCC $8010`. -/
theorem test_bcc_TB2 :
    cpuAfter (program 0x00#8 0x00#8 0x00#8 0xFD#8 0x25#8 .baseOnly [] [0x90#8, 0x0E#8]) =
      some (cpuIs 0x00#8 0x00#8 0x00#8 0xFD#8 0x25#8 0x8002#16 2) := by decide

/-- 95_test_vectors.md TB3: `BCS $8000`. -/
theorem test_bcs_TB3 :
    cpuAfter (program 0x00#8 0x00#8 0x00#8 0xFD#8 0x25#8 .nmos [] [0xB0#8, 0xFE#8]) =
      some (cpuIs 0x00#8 0x00#8 0x00#8 0xFD#8 0x25#8 0x8000#16 3) := by decide

/-- 95_test_vectors.md TB4: `BEQ $7FF2`. -/
theorem test_beq_TB4 :
    cpuAfter (program 0x00#8 0x00#8 0x00#8 0xFD#8 0x26#8 .nmos [] [0xF0#8, 0xF0#8]) =
      some (cpuIs 0x00#8 0x00#8 0x00#8 0xFD#8 0x26#8 0x7FF2#16 4) := by decide

/-- 95_test_vectors.md TB5: `BMI $8081`. -/
theorem test_bmi_TB5 :
    cpuAfter (program 0x00#8 0x00#8 0x00#8 0xFD#8 0xA4#8 .nmos [] [0x30#8, 0x7F#8]) =
      some (cpuIs 0x00#8 0x00#8 0x00#8 0xFD#8 0xA4#8 0x8081#16 3) := by decide

/-- 95_test_vectors.md TB6: `BNE $7F82`. -/
theorem test_bne_TB6 :
    cpuAfter (program 0x00#8 0x00#8 0x00#8 0xFD#8 0x24#8 .nmos [] [0xD0#8, 0x80#8]) =
      some (cpuIs 0x00#8 0x00#8 0x00#8 0xFD#8 0x24#8 0x7F82#16 4) := by decide

/-- 95_test_vectors.md TB7: `BPL $8004`. -/
theorem test_bpl_TB7 :
    cpuAfter (program 0x00#8 0x00#8 0x00#8 0xFD#8 0x24#8 .nmos [] [0x10#8, 0x02#8]) =
      some (cpuIs 0x00#8 0x00#8 0x00#8 0xFD#8 0x24#8 0x8004#16 3) := by decide

/-- 95_test_vectors.md TB8: `BVC $8004`. -/
theorem test_bvc_TB8 :
    cpuAfter (program 0x00#8 0x00#8 0x00#8 0xFD#8 0x64#8 .baseOnly [] [0x50#8, 0x02#8]) =
      some (cpuIs 0x00#8 0x00#8 0x00#8 0xFD#8 0x64#8 0x8002#16 2) := by decide

/-- 95_test_vectors.md TB9: `BVS $8004`. -/
theorem test_bvs_TB9 :
    cpuAfter (program 0x00#8 0x00#8 0x00#8 0xFD#8 0x64#8 .nmos [] [0x70#8, 0x02#8]) =
      some (cpuIs 0x00#8 0x00#8 0x00#8 0xFD#8 0x64#8 0x8004#16 3) := by decide

/-- 95_test_vectors.md TB10: `JMP $1234`. -/
theorem test_jmp_TB10 :
    cpuAfter (program 0x00#8 0x00#8 0x00#8 0xFD#8 0x24#8 .baseOnly [] [0x4C#8, 0x34#8, 0x12#8]) =
      some (cpuIs 0x00#8 0x00#8 0x00#8 0xFD#8 0x24#8 0x1234#16 3) := by decide

/-- 95_test_vectors.md TB11: `JMP ($02FF)`. -/
theorem test_jmp_TB11 :
    cpuAfter (program 0x00#8 0x00#8 0x00#8 0xFD#8 0x24#8 .baseOnly [(0x02FF, 0x00#8), (0x0200, 0x90#8), (0x0300, 0x50#8)] [0x6C#8, 0xFF#8, 0x02#8]) =
      some (cpuIs 0x00#8 0x00#8 0x00#8 0xFD#8 0x24#8 0x9000#16 5) := by decide

/-- 95_test_vectors.md TB13: `JSR $9000`. -/
theorem test_jsr_TB13 :
    cpuAfter (program 0x00#8 0x00#8 0x00#8 0xFD#8 0x24#8 .baseOnly [] [0x20#8, 0x00#8, 0x90#8]) =
      some (cpuIs 0x00#8 0x00#8 0x00#8 0xFB#8 0x24#8 0x9000#16 6) ∧
    byteAfter 0x01FD (program 0x00#8 0x00#8 0x00#8 0xFD#8 0x24#8 .baseOnly [] [0x20#8, 0x00#8, 0x90#8]) = some 0x80#8 ∧
    byteAfter 0x01FC (program 0x00#8 0x00#8 0x00#8 0xFD#8 0x24#8 .baseOnly [] [0x20#8, 0x00#8, 0x90#8]) = some 0x02#8 := by decide

/-- 95_test_vectors.md TB14: `RTS`. -/
theorem test_rts_TB14 :
    cpuAfter (program 0x00#8 0x00#8 0x00#8 0xFB#8 0x24#8 .baseOnly [(0x01FC, 0x02#8), (0x01FD, 0x80#8)] [0x60#8]) =
      some (cpuIs 0x00#8 0x00#8 0x00#8 0xFD#8 0x24#8 0x8003#16 6) := by decide

/-- 95_test_vectors.md TB15: `RTS`. -/
theorem test_rts_TB15 :
    cpuAfter (program 0x00#8 0x00#8 0x00#8 0xFF#8 0x24#8 .baseOnly [(0x0100, 0xFF#8), (0x0101, 0x8F#8)] [0x60#8]) =
      some (cpuIs 0x00#8 0x00#8 0x00#8 0x01#8 0x24#8 0x9000#16 6) := by decide

/-- 95_test_vectors.md TB16: `RTI`. -/
theorem test_rti_TB16 :
    cpuAfter (program 0x00#8 0x00#8 0x00#8 0xFA#8 0x24#8 .baseOnly [(0x01FB, 0xF1#8), (0x01FC, 0x34#8), (0x01FD, 0x12#8)] [0x40#8]) =
      some (cpuIs 0x00#8 0x00#8 0x00#8 0xFD#8 0xE1#8 0x1234#16 6) := by decide

/-- 95_test_vectors.md TB17: `RTI`. -/
theorem test_rti_TB17 :
    cpuAfter (program 0x00#8 0x00#8 0x00#8 0xFA#8 0x24#8 .baseOnly [(0x01FB, 0x00#8), (0x01FC, 0x00#8), (0x01FD, 0x80#8)] [0x40#8]) =
      some (cpuIs 0x00#8 0x00#8 0x00#8 0xFD#8 0x20#8 0x8000#16 6) := by decide

/-- 95_test_vectors.md TB18: `BRK`. -/
theorem test_brk_TB18 :
    cpuAfter (program 0x00#8 0x00#8 0x00#8 0xFD#8 0x24#8 .baseOnly [(0xFFFE, 0x00#8), (0xFFFF, 0x90#8)] [0x00#8]) =
      some (cpuIs 0x00#8 0x00#8 0x00#8 0xFA#8 0x24#8 0x9000#16 7) ∧
    byteAfter 0x01FD (program 0x00#8 0x00#8 0x00#8 0xFD#8 0x24#8 .baseOnly [(0xFFFE, 0x00#8), (0xFFFF, 0x90#8)] [0x00#8]) = some 0x80#8 ∧
    byteAfter 0x01FC (program 0x00#8 0x00#8 0x00#8 0xFD#8 0x24#8 .baseOnly [(0xFFFE, 0x00#8), (0xFFFF, 0x90#8)] [0x00#8]) = some 0x02#8 ∧
    byteAfter 0x01FB (program 0x00#8 0x00#8 0x00#8 0xFD#8 0x24#8 .baseOnly [(0xFFFE, 0x00#8), (0xFFFF, 0x90#8)] [0x00#8]) = some 0x34#8 := by decide

/-- 95_test_vectors.md TB19: `BRK`. -/
theorem test_brk_TB19 :
    cpuAfter (program 0x00#8 0x00#8 0x00#8 0xFD#8 0xE3#8 .baseOnly [(0xFFFE, 0x00#8), (0xFFFF, 0x90#8)] [0x00#8]) =
      some (cpuIs 0x00#8 0x00#8 0x00#8 0xFA#8 0xE7#8 0x9000#16 7) ∧
    byteAfter 0x01FB (program 0x00#8 0x00#8 0x00#8 0xFD#8 0xE3#8 .baseOnly [(0xFFFE, 0x00#8), (0xFFFF, 0x90#8)] [0x00#8]) = some 0xF3#8 := by decide

/-- 95_test_vectors.md TK1: `PHA`. -/
theorem test_pha_TK1 :
    cpuAfter (program 0x5A#8 0x00#8 0x00#8 0xFD#8 0x24#8 .baseOnly [] [0x48#8]) =
      some (cpuIs 0x5A#8 0x00#8 0x00#8 0xFC#8 0x24#8 0x8001#16 3) ∧
    byteAfter 0x01FD (program 0x5A#8 0x00#8 0x00#8 0xFD#8 0x24#8 .baseOnly [] [0x48#8]) = some 0x5A#8 := by decide

/-- 95_test_vectors.md TK2: `PHA`. -/
theorem test_pha_TK2 :
    cpuAfter (program 0x11#8 0x00#8 0x00#8 0x00#8 0x24#8 .baseOnly [] [0x48#8]) =
      some (cpuIs 0x11#8 0x00#8 0x00#8 0xFF#8 0x24#8 0x8001#16 3) ∧
    byteAfter 0x0100 (program 0x11#8 0x00#8 0x00#8 0x00#8 0x24#8 .baseOnly [] [0x48#8]) = some 0x11#8 := by decide

/-- 95_test_vectors.md TK3: `PHP`. -/
theorem test_php_TK3 :
    cpuAfter (program 0x00#8 0x00#8 0x00#8 0xFD#8 0x24#8 .baseOnly [] [0x08#8]) =
      some (cpuIs 0x00#8 0x00#8 0x00#8 0xFC#8 0x24#8 0x8001#16 3) ∧
    byteAfter 0x01FD (program 0x00#8 0x00#8 0x00#8 0xFD#8 0x24#8 .baseOnly [] [0x08#8]) = some 0x34#8 := by decide

/-- 95_test_vectors.md TK4: `PHP`. -/
theorem test_php_TK4 :
    cpuAfter (program 0x00#8 0x00#8 0x00#8 0xFD#8 0xE3#8 .baseOnly [] [0x08#8]) =
      some (cpuIs 0x00#8 0x00#8 0x00#8 0xFC#8 0xE3#8 0x8001#16 3) ∧
    byteAfter 0x01FD (program 0x00#8 0x00#8 0x00#8 0xFD#8 0xE3#8 .baseOnly [] [0x08#8]) = some 0xF3#8 := by decide

/-- 95_test_vectors.md TK5: `PLA`. -/
theorem test_pla_TK5 :
    cpuAfter (program 0x77#8 0x00#8 0x00#8 0xFC#8 0x24#8 .baseOnly [(0x01FD, 0x00#8)] [0x68#8]) =
      some (cpuIs 0x00#8 0x00#8 0x00#8 0xFD#8 0x26#8 0x8001#16 4) := by decide

/-- 95_test_vectors.md TK6: `PLA`. -/
theorem test_pla_TK6 :
    cpuAfter (program 0x00#8 0x00#8 0x00#8 0xFF#8 0x24#8 .baseOnly [(0x0100, 0x80#8)] [0x68#8]) =
      some (cpuIs 0x80#8 0x00#8 0x00#8 0x00#8 0xA4#8 0x8001#16 4) := by decide

/-- 95_test_vectors.md TK7: `PLP`. -/
theorem test_plp_TK7 :
    cpuAfter (program 0x00#8 0x00#8 0x00#8 0xFC#8 0x24#8 .baseOnly [(0x01FD, 0xFF#8)] [0x28#8]) =
      some (cpuIs 0x00#8 0x00#8 0x00#8 0xFD#8 0xEF#8 0x8001#16 4) := by decide

/-- 95_test_vectors.md TK8: `PLP`. -/
theorem test_plp_TK8 :
    cpuAfter (program 0x00#8 0x00#8 0x00#8 0xFC#8 0x24#8 .baseOnly [(0x01FD, 0x00#8)] [0x28#8]) =
      some (cpuIs 0x00#8 0x00#8 0x00#8 0xFD#8 0x20#8 0x8001#16 4) := by decide

/-- 95_test_vectors.md TK9: `CLC`. -/
theorem test_clc_TK9 :
    cpuAfter (program 0x00#8 0x00#8 0x00#8 0xFD#8 0xEF#8 .baseOnly [] [0x18#8]) =
      some (cpuIs 0x00#8 0x00#8 0x00#8 0xFD#8 0xEE#8 0x8001#16 2) := by decide

/-- 95_test_vectors.md TK10: `CLD`. -/
theorem test_cld_TK10 :
    cpuAfter (program 0x00#8 0x00#8 0x00#8 0xFD#8 0x2C#8 .baseOnly [] [0xD8#8]) =
      some (cpuIs 0x00#8 0x00#8 0x00#8 0xFD#8 0x24#8 0x8001#16 2) := by decide

/-- 95_test_vectors.md TK11: `CLI`. -/
theorem test_cli_TK11 :
    cpuAfter (program 0x00#8 0x00#8 0x00#8 0xFD#8 0x24#8 .baseOnly [] [0x58#8]) =
      some (cpuIs 0x00#8 0x00#8 0x00#8 0xFD#8 0x20#8 0x8001#16 2) := by decide

/-- 95_test_vectors.md TK12: `CLV`. -/
theorem test_clv_TK12 :
    cpuAfter (program 0x00#8 0x00#8 0x00#8 0xFD#8 0x64#8 .baseOnly [] [0xB8#8]) =
      some (cpuIs 0x00#8 0x00#8 0x00#8 0xFD#8 0x24#8 0x8001#16 2) := by decide

/-- 95_test_vectors.md TK13: `SEC`. -/
theorem test_sec_TK13 :
    cpuAfter (program 0x00#8 0x00#8 0x00#8 0xFD#8 0x24#8 .baseOnly [] [0x38#8]) =
      some (cpuIs 0x00#8 0x00#8 0x00#8 0xFD#8 0x25#8 0x8001#16 2) := by decide

/-- 95_test_vectors.md TK14: `SED`. -/
theorem test_sed_TK14 :
    cpuAfter (program 0x00#8 0x00#8 0x00#8 0xFD#8 0x24#8 .baseOnly [] [0xF8#8]) =
      some (cpuIs 0x00#8 0x00#8 0x00#8 0xFD#8 0x2C#8 0x8001#16 2) := by decide

/-- 95_test_vectors.md TK15: `SEI`. -/
theorem test_sei_TK15 :
    cpuAfter (program 0x00#8 0x00#8 0x00#8 0xFD#8 0x20#8 .baseOnly [] [0x78#8]) =
      some (cpuIs 0x00#8 0x00#8 0x00#8 0xFD#8 0x24#8 0x8001#16 2) := by decide

/-- 95_test_vectors.md TK16: `NOP`. -/
theorem test_nop_TK16 :
    cpuAfter (program 0x01#8 0x02#8 0x03#8 0xF0#8 0xE7#8 .baseOnly [] [0xEA#8]) =
      some (cpuIs 0x01#8 0x02#8 0x03#8 0xF0#8 0xE7#8 0x8001#16 2) := by decide

/-! ### Exceptions, by 95_test_vectors.md TX1 to TX7 -/

/-- TX1: an illegal opcode is reported and skipped. -/
theorem test_illegal_TX1 :
    cpuAfter (start [0x02#8]) = some (cpuIs 0x00#8 0x00#8 0x00#8 0xFD#8 0x24#8 0x8001#16 2) ∧
    diagAfter (start [0x02#8]) = some { illegalSeen := true, events := [.illegalInstruction 0x8000#16 0x02#8] } := by decide

/-- TX2: the last byte of the map is illegal too. -/
theorem test_illegal_TX2 :
    diagAfter (start [0xFF#8]) = some { illegalSeen := true, events := [.illegalInstruction 0x8000#16 0xFF#8] } := by decide

/-- TX3: interrupt entry. -/
theorem test_interrupt_TX3 :
    let s := (program 0x00#8 0x00#8 0x00#8 0xFD#8 0xA1#8 .baseOnly [(0xFFFA, 0x00#8), (0xFFFB, 0xA0#8)] [])
    let t := interrupt 0xFFFA#16 (s.setCpu { s.cpu with pc := 0x8003#16 })
    t.cpuByte 0x01FD = 0x80#8 ∧ t.cpuByte 0x01FC = 0x03#8 ∧ t.cpuByte 0x01FB = 0xB1#8 ∧
    t.cpu = cpuIs 0x00#8 0x00#8 0x00#8 0xFA#8 0xA5#8 0xA000#16 7 := by decide

/-- A state with an NMI request pending and the NMI vector at 0x9000. -/
def requested (ctrl status : Byte) : State :=
  let s := program 0x00#8 0x00#8 0x00#8 0xFD#8 0x24#8 .baseOnly [(0xFFFA, 0x00#8), (0xFFFB, 0x90#8)] []
  s.setPpu { s.ppu with ctrl := ctrl, status := status, nmiRequest := true }

/-- TX4: a request drained with the NMI disabled is lost. -/
theorem test_drain_TX4 :
    (drain (requested 0x00#8 0x00#8)).ppu.nmiRequest = false ∧
    (drain (requested 0x00#8 0x00#8)).cpu = (requested 0x00#8 0x00#8).cpu := by decide

/-- TX5: P.I does not mask the NMI; the 7 cycles become 21 ticks. -/
theorem test_drain_TX5 :
    (drain (requested 0x80#8 0x00#8)).cpu = cpuIs 0x00#8 0x00#8 0x00#8 0xFA#8 0x24#8 0x9000#16 7 ∧
    (drain (requested 0x80#8 0x00#8)).ppu.cycle = 21 := by decide

/-- TX6: a STATUS read does not cancel the request. -/
theorem test_status_TX6 :
    (cpuRead 0x2002#16 (requested 0x80#8 0x80#8)).1 = 0x80#8 ∧
    (drain (cpuRead 0x2002#16 (requested 0x80#8 0x80#8)).2).cpu.pc = 0x9000#16 := by decide

/-- TX7: enabling the NMI inside VBlank raises none. -/
theorem test_ctrl_TX7 :
    (cpuWrite 0x2000#16 0x80#8 (inVBlank 0x00#8)).ppu.nmiRequest = false := by decide

/-! ### PPU registers, by TR1 to TR10 and R334 -/

/-- TR2: the mirror of MASK. -/
theorem test_mask_TR2 : (cpuRead 0x2001#16 (cpuWrite 0x2009#16 0x1E#8 (start []))).1 = 0x1E#8 := by decide

/-- TR3: STATUS reads clear VBlank and the toggle. -/
theorem test_status_TR3 :
    let r := cpuRead 0x2002#16 (cpuWrite 0x2006#16 0x21#8 (inVBlank 0x00#8))
    r.1 = 0x80#8 ∧ (cpuRead 0x2002#16 r.2).1 = 0x00#8 ∧ r.2.ppu.w = false ∧ r.2.ppu.status = 0x00#8 := by decide

/-- TR5: OAMDATA writes wrap and increment, reads do not. -/
theorem test_oamdata_TR5 :
    let s := cpuWrite 0x2004#16 0x34#8 (cpuWrite 0x2004#16 0x12#8 (cpuWrite 0x2003#16 0xFF#8 (start [])))
    s.oamByte 0xFF = 0x12#8 ∧ s.oamByte 0 = 0x34#8 ∧ s.ppu.oamaddr = 0x01#8 ∧
    (cpuRead 0x2004#16 (cpuRead 0x2004#16 (cpuWrite 0x2003#16 0x00#8 s)).2).1 = 0x34#8 := by decide

/-- TR6: three SCROLL writes. -/
theorem test_scroll_TR6 :
    let s := cpuWrite 0x2005#16 0x30#8 (cpuWrite 0x2005#16 0x20#8 (cpuWrite 0x2005#16 0x10#8 (start [])))
    s.ppu.scrollX = 0x30#8 ∧ s.ppu.scrollY = 0x20#8 ∧ s.ppu.w = true := by decide

/-- TR7: the sprite palette's first byte is a byte of its own. -/
theorem test_data_TR7 :
    let s := cpuWrite 0x2007#16 0x21#8 (address 0x3F#8 0x10#8 (putPpuByte 0x3F00 0x55#8 (start [])))
    s.ppuByte 0x3F10 = 0x21#8 ∧ s.ppuByte 0x3F00 = 0x55#8 ∧ s.ppu.intlAddr = 0x3F11#16 := by decide

/-- TR8: a nametable write under VERTICAL. -/
theorem test_data_TR8 :
    let s := cpuWrite 0x2007#16 0x5B#8 (address 0x24#8 0x05#8 (start []))
    s.ntByte 0x405 = 0x5B#8 ∧ s.ppu.intlAddr = 0x2406#16 := by decide

/-- R334, R414: the first read of a plain address is stale; a palette read is not, and fills the buffer from 0x1000 below. -/
theorem test_data_read_R334 :
    let s := putNtByte 0x700 0x66#8 (putPpuByte 0x3F00 0x2C#8 (putPpuByte 0x0010 0x77#8 (start [])))
    let r := cpuRead 0x2007#16 (address 0x00#8 0x10#8 s)
    let q := cpuRead 0x2007#16 (address 0x3F#8 0x00#8 s)
    r.1 = 0x00#8 ∧ r.2.ppu.buffer = 0x77#8 ∧ r.2.ppu.intlAddr = 0x0011#16 ∧ q.1 = 0x2C#8 ∧ q.2.ppu.buffer = 0x66#8 := by decide

/-- R336: the increment is 32 under CTRL bit 2. -/
theorem test_increment_R336 :
    (cpuWrite 0x2007#16 0x00#8 (address 0x20#8 0x00#8 (cpuWrite 0x2000#16 0x04#8 (start [])))).ppu.intlAddr = 0x2020#16 := by decide

/-! ### Mirrors, by the tables of 95_test_vectors.md 1.2 -/

theorem test_cpu_mirror :
    cpuMirror 0x07FF#16 = 0x07FF#16 ∧ cpuMirror 0x0800#16 = 0x0000#16 ∧ cpuMirror 0x1FFF#16 = 0x07FF#16 ∧
    cpuMirror 0x2008#16 = 0x2000#16 ∧ cpuMirror 0x3456#16 = 0x2006#16 ∧ cpuMirror 0x3FFF#16 = 0x2007#16 ∧
    cpuMirror 0x4000#16 = 0x4000#16 ∧ cpuMirror 0xFFFF#16 = 0xFFFF#16 := by decide

theorem test_ppu_mirror :
    ppuMirror .vertical 0x2800#16 = 0x2000#16 ∧ ppuMirror .horizontal 0x2800#16 = 0x2800#16 ∧
    ppuMirror .vertical 0x2C00#16 = 0x2400#16 ∧ ppuMirror .horizontal 0x2C00#16 = 0x2800#16 ∧
    ppuMirror .vertical 0x2FFF#16 = 0x27FF#16 ∧ ppuMirror .horizontal 0x2FFF#16 = 0x2BFF#16 ∧
    ppuMirror .vertical 0x3EFF#16 = 0x26FF#16 ∧ ppuMirror .horizontal 0x3EFF#16 = 0x2AFF#16 ∧
    ppuMirror .vertical 0x3F10#16 = 0x3F10#16 := by decide

/-! ### Controller, by TC1 to TC3 -/

/-- The machine with the host holding a mask of buttons. -/
def holding (m : Byte) (s : State) : State := s.setHost { s.host with buttons := some m }

/-- TC1: A, Start and Right (0x89) come out least significant bit first, then ones. -/
theorem test_controller_TC1 :
    readPadMany 10 (cpuWrite 0x4016#16 0x00#8 (cpuWrite 0x4016#16 0x01#8 (holding 0x89#8 (start [])))) =
      [0x41#8, 0x40#8, 0x40#8, 0x41#8, 0x40#8, 0x40#8, 0x40#8, 0x41#8, 0x41#8, 0x41#8] := by decide

/-- TC2: with the strobe held every read latches again and shows A. -/
theorem test_controller_TC2 :
    let r := cpuRead 0x4016#16 (cpuWrite 0x4016#16 0x01#8 (holding 0x89#8 (start [])))
    r.1 = 0x41#8 ∧ (cpuRead 0x4016#16 (holding 0x00#8 r.2)).1 = 0x40#8 := by decide

/-- TC3: the latch holds the mask at the falling strobe. -/
theorem test_controller_TC3 :
    readPadMany 2 (holding 0x02#8 (cpuWrite 0x4016#16 0x00#8 (cpuWrite 0x4016#16 0x01#8 (holding 0x89#8 (start []))))) =
      [0x41#8, 0x40#8] := by decide

/-! ### Driver and timing, by TD1 to TD3, R341, R342, R380, R381 -/

/-- TD1: one NOP is two cycles and six ticks. -/
theorem test_iteration_TD1 :
    driverAfter (start [0xEA#8]) = some { cyclesSynced := 2, paused := false } ∧ cycleAfter (start [0xEA#8]) = some 6 := by decide

/-- The state of TD2 after the step that ends at 27393 cycles, about to run `JMP $8000`, with CTRL given. -/
def beforeVBlank (ctrl : Byte) : State :=
  let s := program 0x00#8 0x00#8 0x00#8 0xFD#8 0x24#8 .baseOnly [(0xFFFA, 0x00#8), (0xFFFB, 0x80#8)] [0x4C#8, 0x00#8, 0x80#8]
  let s := s.setCpu { s.cpu with cycles := 27393 }
  let s := s.setDriver { s.driver with cyclesSynced := 27393 }
  s.setPpu { s.ppu with ctrl := ctrl, cycle := 82179 }

/-- TD2: the next step sets VBlank. -/
theorem test_vblank_TD2 :
    cycleAfter (beforeVBlank 0x00#8) = some 82188 ∧ statusAfter (beforeVBlank 0x00#8) = some 0x80#8 ∧
    cpuAfter (beforeVBlank 0x00#8) = some (cpuIs 0x00#8 0x00#8 0x00#8 0xFD#8 0x24#8 0x8000#16 27396) := by decide

/-- TD3: with the NMI enabled the same step enters it. -/
theorem test_nmi_TD3 :
    cycleAfter (beforeVBlank 0x80#8) = some 82209 ∧
    cpuAfter (beforeVBlank 0x80#8) = some (cpuIs 0x00#8 0x00#8 0x00#8 0xFA#8 0x24#8 0x8000#16 27403) := by decide

/-- R342: the tick that makes the counter 0 clears VBlank and counts a frame. -/
theorem test_frame_end_R342 :
    let s := (inVBlank 0x00#8).setPpu { (inVBlank 0x00#8).ppu with cycle := 89341 }
    (ppuTick s).ppu.cycle = 0 ∧ (ppuTick s).ppu.status = 0x00#8 ∧ (ppuTick s).ppu.frameCount = 1 := by decide

/-- A NOP at a breakpoint. -/
def stopped (paused : Bool) (command : Option DebugCommand) : State :=
  let s := presenting { breakpoints := [0x8000#16], command := command, tracing := false } (start [0xEA#8])
  s.setDriver { s.driver with paused := paused }

/-- R380: the breakpoint pauses the loop, and a single-step runs one iteration. -/
theorem test_breakpoint_R380 :
    driverAfter (stopped false none) = some { cyclesSynced := 0, paused := true } ∧
    driverAfter (stopped true (some .singleStep)) = some { cyclesSynced := 2, paused := true } := by decide

/-- R380: a resume clears the pause and runs one iteration, even at the breakpoint. -/
theorem test_resume_R380 :
    driverAfter (stopped true (some .resume)) = some { cyclesSynced := 2, paused := false } := by decide

/-- R381: the trace line stands before the CPU step. -/
theorem test_trace_R381 :
    diagAfter (presenting { quiet with tracing := true } (start [0xA9#8, 0x80#8])) =
      some { illegalSeen := false,
             events := [.trace { pc := 0x8000#16, a := 0x00#8, x := 0x00#8, y := 0x00#8, sp := 0xFD#8, p := 0x24#8 }] } := by decide

/-- R418: `JMP PC` is the idle loop. -/
theorem test_end_R418 :
    atSelfJump (start [0x4C#8, 0x00#8, 0x80#8]) = true ∧ atSelfJump (start [0x4C#8, 0x01#8, 0x80#8]) = false := by decide

/-! ### Renderer, by TG1 to TG6 -/

/-- Tile 1 of table 0x0000 with row 0 planes 0x81 and 0x80, background colours, sprite palette 2 and nametable byte 0. -/
def picture : State :=
  let s := putPpuByte 0x0018 0x80#8 (putPpuByte 0x0010 0x81#8 (start []))
  let s := putPpuByte 0x3F03 0x33#8 (putPpuByte 0x3F01 0x11#8 (putPpuByte 0x3F00 0x0F#8 s))
  let s := putPpuByte 0x3F1B 0x2B#8 (putPpuByte 0x3F19 0x2A#8 s)
  let s := putNtByte 0 0x01#8 s
  putOamByte 3 0xFE#8 (putOamByte 2 0x02#8 (putOamByte 1 0x01#8 (putOamByte 0 0x05#8 s)))

/-- TG1 to TG3. -/
theorem test_tile_TG1 :
    tilePixel 0x0000#16 0x01#8 0 0 picture = 3 ∧ tilePixel 0x0000#16 0x01#8 0 7 picture = 1 ∧
    tilePixel 0x0000#16 0x01#8 0 3 picture = 0 := by decide

/-- TG4. -/
theorem test_background_TG4 :
    backgroundPixel 0 0 picture = 0x33#8 ∧ backgroundPixel 0 7 picture = 0x11#8 ∧ backgroundPixel 0 3 picture = 0x0F#8 := by decide

/-- TG6: index 3 of sprite palette 2 at the right edge; index 0 is transparent. -/
theorem test_sprite_TG6 :
    spritePixel 0 5 254 picture = some 0x2B#8 ∧ spritePixel 0 5 255 picture = none ∧ spritePixel 0 4 254 picture = none := by decide

/-! ### Cartridge load, by TI1 to TI8 -/

/-- An image of header bytes 4, 5 and 6 and `n` zero bytes. -/
def image (prg chr flags : Byte) (n : Nat) : List Byte :=
  [0x4E#8, 0x45#8, 0x53#8, 0x1A#8, prg, chr, flags, 0x00#8, 0x00#8, 0x00#8, 0x00#8, 0x00#8, 0x00#8, 0x00#8, 0x00#8, 0x00#8] ++
    List.replicate n 0x00#8

theorem image_length (prg chr flags : Byte) (n : Nat) : (image prg chr flags n).length = 16 + n := by
  simp only [image, List.length_append, List.length_replicate, List.length_cons, List.length_nil]

theorem image_getD_four (prg chr flags : Byte) (n : Nat) : (image prg chr flags n).getD 4 0#8 = prg := rfl
theorem image_getD_five (prg chr flags : Byte) (n : Nat) : (image prg chr flags n).getD 5 0#8 = chr := rfl
theorem image_getD_six (prg chr flags : Byte) (n : Nat) : (image prg chr flags n).getD 6 0#8 = flags := rfl

theorem loadCartridge_accepts {i : List Byte} (h : imageWellFormed i = true) : ∃ t, loadCartridge i = .next t := ⟨_, if_pos h⟩

theorem loadCartridge_refuses {i : List Byte} (h : imageWellFormed i = false) : loadCartridge i = .fault .romFormatError :=
  if_neg (by rw [h]; decide)

/-- The check of an image by its length and its header (R409). -/
theorem image_wellFormed (prg chr flags : Byte) (n : Nat) : imageWellFormed (image prg chr flags n) =
    (decide ((if flags.getLsbD 2 then 512 else 0) + 16384 * prg.toNat + 8192 * chr.toNat ≤ n) &&
      ((prg.toNat == 1 || prg.toNat == 2) && (chr.toNat == 0 || chr.toNat == 1))) := by
  have h4 : imageByte (image prg chr flags n) 4 = prg := rfl
  have h5 : imageByte (image prg chr flags n) 5 = chr := rfl
  have h6 : imageByte (image prg chr flags n) 6 = flags := rfl
  simp only [imageWellFormed, imageLongEnough, imageBanksFixed, prgBanks, chrBanks, trainerLength, h4, h5, h6, image_length]
  congr 1
  rw [decide_eq_true (by omega : 16 ≤ 16 + n), Bool.true_and]
  exact decide_eq_decide.2 (by omega)

/-- TI1 to TI3 and TI8: accepted images. -/
theorem test_image_accepted :
    imageWellFormed (image 0x01#8 0x00#8 0x01#8 16384) = true ∧ imageWellFormed (image 0x02#8 0x01#8 0x00#8 40960) = true ∧
    imageWellFormed (image 0x01#8 0x00#8 0x04#8 16896) = true ∧ imageWellFormed (image 0x01#8 0x00#8 0x08#8 16384) = true := by
  simp only [image_wellFormed]
  decide

/-- TI4 to TI7: ill-formed images, one for each check: program data short by a byte, trainer not there, four banks, no bank, two
character banks, no header. -/
theorem test_image_refused :
    imageWellFormed (image 0x01#8 0x00#8 0x00#8 16383) = false ∧ imageWellFormed (image 0x01#8 0x00#8 0x04#8 16895) = false ∧
    imageWellFormed (image 0x04#8 0x00#8 0x00#8 65536) = false ∧ imageWellFormed (image 0x00#8 0x00#8 0x00#8 16384) = false ∧
    imageWellFormed (image 0x01#8 0x02#8 0x00#8 32768) = false ∧
    imageWellFormed (List.replicate 15 0x01#8) = false := by
  simp only [image_wellFormed]
  decide

/-- TI8: the four-screen bit selects nothing. -/
theorem test_image_mirroring :
    imageMirroring (image 0x01#8 0x00#8 0x08#8 0) = .horizontal ∧ imageMirroring (image 0x01#8 0x00#8 0x01#8 0) = .vertical := by decide

/-! ### Witnesses: states that meet the hypotheses of the statements, each clause at a boundary -/

/-- StepRunsDecodedInstruction: `LDA #$80` at 0x8000, two bytes fetched. -/
theorem witness_StepRunsDecodedInstruction :
    ∃ t u v, startIteration (start [0xA9#8, 0x80#8]) = .run t ∧
      readBytes 2 t.cpu.pc t = ([0xA9#8, 0x80#8], u) ∧ decode [0xA9#8, 0x80#8] = .ok (.ldaImm 0x80#8) [] ∧
      exec (.ldaImm 0x80#8) u = .next v := ⟨_, _, _, rfl, rfl, rfl, rfl⟩

/-- `JMP $1234` at 0xFFFE, its last byte at address 0. -/
def wrapped : State :=
  let s := putCpuBytes 0xFFFE [0x4C#8, 0x34#8] (putCpuByte 0 0x12#8 (start []))
  s.setCpu { s.cpu with pc := 0xFFFE#16 }

/-- The same for a three-byte instruction whose last byte wraps to address 0. -/
theorem witness_StepRunsDecodedInstruction_wrap :
    ∃ t u, startIteration wrapped = .run t ∧ readBytes 3 t.cpu.pc t = ([0x4C#8, 0x34#8, 0x12#8], u) ∧
      decode [0x4C#8, 0x34#8, 0x12#8] = .ok (.jmpAbs 0x1234#16) [] := ⟨_, _, rfl, rfl, rfl⟩

/-- IllegalOpcodeStep: 0x02 at PC. -/
theorem witness_IllegalOpcodeStep :
    ∃ t, startIteration (start [0x02#8]) = .run t ∧ (cpuRead t.cpu.pc t).1 ∈ illegalOpcodes :=
  ⟨_, rfl, by decide⟩

/-- LoadPlacesTheCartridge: one bank of each kind of header, at the shortest length. -/
theorem witness_LoadPlacesTheCartridge :
    (∀ h ∈ [(0x01#8, 0x00#8, 0x01#8, 16384), (0x02#8, 0x01#8, 0x00#8, 40960), (0x01#8, 0x00#8, 0x04#8, 16896)],
      let i := image h.1 h.2.1 h.2.2.1 h.2.2.2
      let prg := (i.getD 4 0#8).toNat
      let chr := (i.getD 5 0#8).toNat
      (prg = 1 ∨ prg = 2) ∧ (chr = 0 ∨ chr = 1) ∧
      16 + (if (i.getD 6 0#8).getLsbD 2 then 512 else 0) + 16384 * prg + 8192 * chr ≤ i.length) := by
  simp only [List.forall_mem_cons, image_length, image_getD_four, image_getD_five, image_getD_six]
  decide

/-- LoadRefusal and ResetAndLoadMeetInvariants: an image that loads, and one that does not. -/
theorem witness_LoadRefusal :
    (∃ t, loadCartridge (image 0x01#8 0x00#8 0x01#8 16384) = .next t) ∧
    loadCartridge (image 0x01#8 0x00#8 0x01#8 16383) = .fault .romFormatError := by
  refine ⟨loadCartridge_accepts ?_, loadCartridge_refuses ?_⟩ <;> rw [image_wellFormed] <;> decide

/-- NametableFoldAndSlots: both ends of the nametable range, in both modes; a slot of each kind. -/
theorem witness_NametableFoldAndSlots :
    (∀ a ∈ [0x2000#16, 0x2FFF#16], 0x2000 ≤ a.toNat ∧ a.toNat ≤ 0x2FFF) ∧
    ppuSlot .vertical 0x2FFF#16 = .nt 0x7FF ∧ ppuSlot .horizontal 0x2FFF#16 = .nt 0x7FF ∧
    ppuSlot .vertical 0x3F1F#16 = .ppu 0x3F1F ∧ ppuSlot .vertical 0x1FFF#16 = .ppu 0x1FFF := by
  simp only [List.forall_mem_cons, List.not_mem_nil, false_imp_iff, implies_true, and_true]
  decide

/-- DefaultStore: addresses at the edges of the hooked ranges; 0x2003 is plain for reads alone. -/
theorem witness_DefaultStore :
    (∀ a ∈ [0x0000#16, 0x1FFF#16, 0x2003#16, 0x4000#16, 0x4014#16, 0x4015#16, 0x4017#16, 0x8000#16, 0xFFFF#16],
      (cpuMirror a).toNat ∉ [0x2000, 0x2001, 0x2002, 0x2004, 0x2007, 0x4016]) ∧
    (∀ a ∈ [0x0000#16, 0x1FFF#16, 0x4000#16, 0x4013#16, 0x4015#16, 0x4017#16, 0x8000#16, 0xFFFF#16],
      ¬(0x2000 ≤ (cpuMirror a).toNat ∧ (cpuMirror a).toNat ≤ 0x2007) ∧ (cpuMirror a).toNat ≠ 0x4014 ∧
      (cpuMirror a).toNat ≠ 0x4016) := by
  simp only [List.forall_mem_cons, List.not_mem_nil, false_imp_iff, implies_true, and_true]
  exact ⟨by decide, by decide⟩

/-- BusFrames: claimed addresses, and reads that leave the PPU and the port. -/
theorem witness_BusFrames :
    (∀ a ∈ [0x2000#16, 0x3FFF#16, 0x4014#16, 0x4016#16],
      (0x2000 ≤ (cpuMirror a).toNat ∧ (cpuMirror a).toNat ≤ 0x2007) ∨ (cpuMirror a).toNat = 0x4014 ∨ (cpuMirror a).toNat = 0x4016) ∧
    (∀ a ∈ [0x2001#16, 0x2003#16, 0x4015#16], cpuMirror a ≠ 0x2002#16 ∧ cpuMirror a ≠ 0x2007#16 ∧ cpuMirror a ≠ 0x4016#16) := by
  simp only [List.forall_mem_cons, List.not_mem_nil, false_imp_iff, implies_true, and_true]
  decide

/-- TransactionLog: an address of each case. -/
theorem witness_TransactionLog : cpuMirror 0x4013#16 ≠ 0x4014#16 ∧ cpuMirror 0x4014#16 = 0x4014#16 := by decide

/-- ReadAfterWrite: a mirror of the byte written, and another byte. -/
theorem witness_ReadAfterWrite :
    writeHooked (cpuMirror 0x0801#16) = false ∧ readHooked (cpuMirror 0x1801#16) = false ∧
    cpuMirror 0x1801#16 = cpuMirror 0x0801#16 ∧ readHooked (cpuMirror 0x4015#16) = false ∧
    cpuMirror 0x4015#16 ≠ cpuMirror 0x0801#16 := by decide

/-- PlainRegisters, WriteOnlyRegisterReads, OamDataWrite, ScrollAndAddrWrites, DataWrite, DataRead: the last mirror of each register. -/
theorem witness_registers :
    cpuMirror 0x3FF8#16 = 0x2000#16 ∧ cpuMirror 0x3FF9#16 = 0x2001#16 ∧ cpuMirror 0x3FFA#16 = 0x2002#16 ∧
    cpuMirror 0x3FFB#16 = 0x2003#16 ∧ cpuMirror 0x3FFC#16 = 0x2004#16 ∧ cpuMirror 0x3FFD#16 = 0x2005#16 ∧
    cpuMirror 0x3FFE#16 = 0x2006#16 ∧ cpuMirror 0x3FFF#16 = 0x2007#16 ∧ cpuMirror 0x4014#16 = 0x4014#16 := by decide

/-- StatusRead: both values of the VBlank bit. -/
theorem witness_StatusRead :
    cpuMirror 0x3FFA#16 = 0x2002#16 ∧ VBlankOnly (inVBlank 0x00#8) ∧ VBlankOnly State.reset := by
  unfold VBlankOnly
  decide

/-- DataRead: the palette clause at both ends of its range, and the clause beside it. -/
theorem witness_DataRead :
    (ppuMirror .vertical 0x3F00#16).toNat = 0x3F00 ∧ (ppuMirror .vertical 0x3FFF#16).toNat = 0x3F1F ∧
    ¬(0x3F00 ≤ (ppuMirror .vertical 0x3EFF#16).toNat) ∧ ¬(0x3F00 ≤ (ppuMirror .vertical 0x4000#16).toNat) := by decide

/-- OamDma: the last page of RAM, the first page beyond the ports, and a page that is neither. -/
theorem witness_OamDma :
    (0x1F#8).toNat < 0x20 ∧ 0x40 < (0x41#8).toNat ∧ ¬((0x40#8).toNat < 0x20 ∨ 0x40 < (0x40#8).toNat) := by decide

/-- ControllerShiftsOut: the ninth of ten reads. -/
theorem witness_ControllerShiftsOut :
    State.reset.pad.strobe = false ∧ State.reset.pad.cursor = 0 ∧ 8 < 10 := by decide

/-- ReturnsUndoEntries: the status register after reset, and one with every flag set. -/
theorem witness_ReturnsUndoEntries :
    StatusHeld State.reset ∧ StatusHeld (program 0x00#8 0x00#8 0x00#8 0x01#8 0xEF#8 .baseOnly [] []) := by
  unfold StatusHeld
  decide

/-- StackReversesAndWraps: as many bytes as the stack holds, and both wraps. -/
theorem witness_StackReversesAndWraps :
    (List.replicate 256 0xA5#8).length ≤ 256 ∧ (program 0x00#8 0x00#8 0x00#8 0x00#8 0x24#8 .baseOnly [] []).cpu.sp = 0x00#8 ∧
    (program 0x00#8 0x00#8 0x00#8 0xFF#8 0x24#8 .baseOnly [] []).cpu.sp = 0xFF#8 := ⟨by rw [List.length_replicate], rfl, rfl⟩

/-- The machine after reset with its PPU counter set. -/
def atCycle (n : Nat) : State := State.reset.setPpu { State.reset.ppu with cycle := n }

/-- PpuTick: the tick before each of the two special cycles, and one beside them. -/
theorem witness_PpuTick :
    ((atCycle 82180).ppu.cycle + 1) % 89342 = 82181 ∧ ((atCycle 89341).ppu.cycle + 1) % 89342 = 0 ∧
    ((atCycle 82181).ppu.cycle + 1) % 89342 ≠ 82181 ∧ ((atCycle 82181).ppu.cycle + 1) % 89342 ≠ 0 := by decide

/-- VBlankTimeline: reset, over a whole frame. -/
theorem witness_VBlankTimeline :
    State.reset.ppu.cycle = 0 ∧ State.reset.ppu.status.getLsbD 7 = false ∧ 89342 ≤ 89342 := by decide

/-- `n` CPU cycles not yet converted, with the PPU counter and CTRL given. -/
def owing (n cycle : Nat) (ctrl : Byte) : State :=
  let s := State.reset.setCpu { State.reset.cpu with cycles := n }
  s.setPpu { s.ppu with cycle := cycle, ctrl := ctrl }

/-- SyncAndDrain: cycles owed, none owed, and the three cases of the drain. -/
theorem witness_SyncAndDrain :
    (owing 3 0 0x00#8).driver.cyclesSynced ≤ (owing 3 0 0x00#8).cpu.cycles ∧
    (owing 0 0 0x00#8).cpu.cycles ≤ (owing 0 0 0x00#8).driver.cyclesSynced ∧ (owing 0 0 0x00#8).ppu.nmiRequest = false ∧
    (requested 0x00#8 0x00#8).ppu.nmiRequest = true ∧ (requested 0x00#8 0x00#8).ppu.ctrl.getLsbD 7 = false ∧
    (requested 0x80#8 0x00#8).ppu.nmiRequest = true ∧ (requested 0x80#8 0x00#8).ppu.ctrl.getLsbD 7 = true := by decide

/-- NmiLatency: the last tick owed reaches VBlank, with CTRL bit 7 set and clear; one tick fewer does not; a request pending before. -/
theorem witness_NmiLatency :
    let reached := fun s : State =>
      ∃ n, 1 ≤ n ∧ n ≤ 3 * (s.cpu.cycles - s.driver.cyclesSynced) ∧ (s.ppu.cycle + n) % 89342 = 82181
    let taken := fun s : State => (s.ppu.nmiRequest = true ∨ reached s) ∧ s.ppu.ctrl.getLsbD 7 = true
    taken (owing 2 82175 0x80#8) ∧ (owing 2 82175 0x80#8).ppu.cycle < 89342 ∧ taken (requested 0x80#8 0x00#8) ∧
    ¬ taken (owing 2 82175 0x00#8) ∧ ¬ taken (requested 0x00#8 0x00#8) ∧ ¬ taken (owing 2 82174 0x80#8) := by
  refine ⟨⟨.inr ⟨6, by decide⟩, by decide⟩, by decide, ⟨.inl (by decide), by decide⟩, fun h => absurd h.2 (by decide),
    fun h => absurd h.2 (by decide), ?_⟩
  rintro ⟨h | ⟨n, h1, h2, h3⟩, -⟩
  · exact absurd h (by decide)
  · have e : 3 * ((owing 2 82174 0x80#8).cpu.cycles - (owing 2 82174 0x80#8).driver.cyclesSynced) = 6 := by decide
    have c : (owing 2 82174 0x80#8).ppu.cycle = 82174 := by decide
    rw [e] at h2
    rw [c] at h3
    omega

/-- BreakpointsAndTrace: a known input and none, and the five cases of the check. -/
theorem witness_BreakpointsAndTrace :
    (start []).host.checks = quiet :: [] ∧ State.reset.host.checks = [] ∧
    (sampleDebug (stopped true none)).1.command = none ∧ (stopped true none).driver.paused = true ∧
    (stopped false none).driver.paused = false ∧ (stopped false none).cpu.pc ∈ (sampleDebug (stopped false none)).1.breakpoints ∧
    (sampleDebug (start [])).1.command = none ∧ (start []).driver.paused = false ∧
    (start []).cpu.pc ∉ (sampleDebug (start [])).1.breakpoints ∧
    (sampleDebug (stopped true (some .singleStep))).1.command = some .singleStep ∧
    (sampleDebug (stopped true (some .resume))).1.command = some .resume := by decide

/-- R9: one iteration takes one known input, so the host may present other breakpoints and a command at the next check; with none
known the check is a draw. -/
theorem test_inputs_change_R9 :
    let next : DebugInput := { breakpoints := [0x8001#16], command := some .resume, tracing := true }
    (after ((start [0xEA#8]).setHost { (start [0xEA#8]).host with checks := [quiet, next] })).map (·.host.checks) = some [next] ∧
    (sampleDebug State.reset).2.host.checkDraws = 1 := by decide

/-- `picture` with its sprite as the last one and every other sprite below the screen. -/
def onlyLast : State :=
  picture.setMem { picture.mem with
    oam := (List.range 63).map (fun k => (4 * k, 0xFF#8)) ++ [(252, 0x05#8), (253, 0x01#8), (254, 0x02#8), (255, 0xFE#8)] }

set_option maxRecDepth 4000 in
/-- FramePixels: a pixel no sprite covers, and one only the last sprite covers. -/
theorem witness_FramePixels :
    (∀ n, n < 64 → spritePixel n 239 255 onlyLast = none) ∧ spritePixel 63 5 254 onlyLast = some 0x2B#8 ∧
    ∀ m, 63 < m → m < 64 → spritePixel m 5 254 onlyLast = none := by
  refine ⟨by decide, by decide, fun m h1 h2 => ?_⟩
  omega

/-- RendererInputs: two states that differ in MASK, scroll, registers and the bus log. -/
theorem witness_RendererInputs :
    let t := cpuWrite 0x2005#16 0x12#8 (cpuWrite 0x2001#16 0xFF#8 picture)
    SamePpuSide picture t ∧ t.ppu.ctrl = picture.ppu.ctrl ∧ t.params.mirroring = picture.params.mirroring ∧ t ≠ picture :=
  ⟨⟨fun _ => rfl, fun _ => rfl, fun _ => rfl⟩, rfl, rfl, by
    intro h
    exact absurd (congrArg (·.ppu.mask) h) (by decide)⟩

/-- InstructionsLeaveTheDriver: an instruction with each kind of cost, under both parameters. -/
theorem witness_InstructionsLeaveTheDriver :
    (∃ t, exec .nop State.reset = .next t ∧ t.cpu.cycles = 2) ∧
    ∃ t, exec (.bne 0x80#8) (program 0x00#8 0x00#8 0x00#8 0xFD#8 0x24#8 .nmos [] []) = .next t ∧ t.cpu.cycles = 4 :=
  ⟨⟨_, rfl, rfl⟩, _, rfl, by decide⟩

/-- RecordsAndConfiguration: a step that reports, and one that takes a command. -/
theorem witness_RecordsAndConfiguration :
    (∃ t, step (start [0x02#8]) = .next t) ∧ ∃ t, step (stopped true (some .resume)) = .next t := ⟨⟨_, rfl⟩, _, rfl⟩

/-- StepKeepsMemoryForm: a state with bytes listed, and a step from it. -/
theorem witness_StepKeepsMemoryForm :
    picture.mem.wf = true ∧ (start [0x8D#8, 0x00#8, 0x02#8]).mem.wf = true ∧
    ∃ t, Sys2Proof.Machine.step (start [0x8D#8, 0x00#8, 0x02#8]) = .next t := ⟨by decide, by decide, _, rfl⟩

/-- StepKeepsRegisterForms: all flags set, inside VBlank, both counters at their last value. -/
theorem witness_StepKeepsRegisterForms :
    let s := program 0x00#8 0x00#8 0x00#8 0xFD#8 0xEF#8 .baseOnly [] [0x28#8]
    let s := { s with ppu := { s.ppu with status := 0x80#8, cycle := 89341 }, pad := { s.pad with cursor := 8 } }
    (StatusHeld s ∧ VBlankOnly s ∧ CountersInRange s) ∧ ∃ t, Sys2Proof.Machine.step s = .next t := by
  refine ⟨?_, _, rfl⟩
  unfold StatusHeld VBlankOnly CountersInRange
  decide

/-- StepKeepsClockRatio: the state of TD2, one step before VBlank. -/
theorem witness_StepKeepsClockRatio :
    ClockRatio (beforeVBlank 0x80#8) ∧ ∃ t, Sys2Proof.Machine.step (beforeVBlank 0x80#8) = .next t := by
  refine ⟨?_, _, rfl⟩
  unfold ClockRatio
  decide

/-- OutputsAreNeverRead: two states that differ in every output. -/
theorem witness_OutputsAreNeverRead :
    let s := start [0xEA#8]
    let t := { s with
      ppu := { s.ppu with scrollX := 0x01#8, scrollY := 0x02#8, frame := some [], frameCount := 7 }
      bus := { lastRead := some 0x1234#16, lastWrite := some 0x0001#16 }
      diag := { illegalSeen := true, events := [.illegalInstruction 0x8000#16 0x02#8] } }
    SameButOutputs s t ∧ s ≠ t :=
  ⟨⟨rfl, rfl, rfl, rfl, rfl, rfl, rfl⟩, fun h => absurd (congrArg (·.diag.illegalSeen) h) (by decide)⟩

/-! ### The host's two questions -/

/-- A placed table word is what the next step runs, and a row of three bytes given by its opcode alone has operand zero. -/
theorem test_withFetchWord :
    cpuAfter (State.reset.withFetchWord 16 0x80A9) = some (cpuIs 0x80#8 0x00#8 0x00#8 0xFD#8 0xA4#8 0x8002#16 2) ∧
    decodeTableWord 8 0x4C = some (.jmpAbs 0x0000#16) := by decide

end Sys2Proof.Tests
end

section
/-!
PROOFS: what a whole step keeps. One induction rule over the parts of a driver iteration, for any property of the state, and the
records, parameters and host inputs as its first use.
-/
namespace Sys2Proof.Machine

/-! ### What bus accesses and register changes keep, every instruction keeps -/

/-- Bus reads, bus writes and changes of the CPU registers keep `P`. -/
structure KeptByBus (P : State → Prop) : Prop where
  read : ∀ a s, P s → P (cpuRead a s).2
  write : ∀ a v s, P s → P (cpuWrite a v s)
  regs : ∀ c s, P s → P (s.setCpu c)

namespace KeptByBus

variable {P : State → Prop} (k : KeptByBus P)
include k

theorem retire (pc : Word) (n : Nat) {s : State} (h : P s) : P (retire pc n s) := k.regs _ _ h

theorem cpuReadPair (lo hi : Word) {s : State} (h : P s) : P (cpuReadPair lo hi s).2 := k.read _ _ (k.read _ _ h)

theorem resolve (m : Mode) {s : State} (h : P s) : P (resolve m s).2 := by
  cases m with
  | ind w => exact k.cpuReadPair _ _ h
  | indX d => exact k.cpuReadPair _ _ h
  | indY d => exact k.cpuReadPair _ _ h
  | _ => exact h

theorem readOperand (o : Operand) {s : State} (h : P s) : P (readOperand o s).2 := by
  cases o with
  | imm v => exact h
  | mem m => exact k.read _ _ (k.resolve m h)

theorem push (v : Byte) {s : State} (h : P s) : P (push v s) := k.regs _ _ (k.write _ _ _ h)

theorem pull {s : State} (h : P s) : P (pull s).2 := k.read _ _ (k.regs _ _ h)

theorem pushWord (w : Word) {s : State} (h : P s) : P (pushWord w s) := k.push _ (k.push _ h)

theorem pullWord {s : State} (h : P s) : P (pullWord s).2 := k.pull (k.pull h)

theorem takeException (saved vector : Word) (n : Nat) {s : State} (h : P s) : P (takeException saved vector n s) :=
  k.retire _ _ (k.cpuReadPair _ _ (k.regs _ _ (k.push _ (k.pushWord _ h))))

/-- Every instruction keeps `P`, by its shape. -/
theorem shapeRun (sh : Shape) {s : State} (h : P s) : P (sh.run s) := by
  cases sh with
  | register f len base => exact k.retire _ _ (k.regs _ _ h)
  | read f o len base pen => exact k.retire _ _ (k.regs _ _ (k.readOperand o h))
  | write value m len base => exact k.retire _ _ (k.write _ _ _ (k.resolve m h))
  | modify f m len base => exact k.retire _ _ (k.regs _ _ (k.write _ _ _ (k.read _ _ (k.resolve m h))))
  | branch cond b1 => exact k.retire _ _ h
  | jump w base => exact k.retire _ _ h
  | jumpThrough w base => exact k.retire _ _ (k.resolve (.ind w) h)
  | call w base => exact k.retire _ _ (k.pushWord _ h)
  | back base => exact k.retire _ _ (k.pullWord h)
  | exit base => exact k.retire _ _ (k.pullWord (k.regs _ _ (k.pull h)))
  | trap vector base => exact k.takeException _ _ _ h
  | push value base => exact k.retire _ _ (k.push _ h)
  | pull f base => exact k.retire _ _ (k.regs _ _ (k.pull h))

end KeptByBus

/-! ### What the parts of an iteration keep, a step keeps -/

/-- The parts of a driver iteration after the draw of the host's input keep `P` (70_reset_and_hazards.md R400). -/
structure KeptByIteration (P : State → Prop) : Prop extends KeptByBus P where
  driver : ∀ d s, P s → P (s.setDriver d)
  trace : ∀ l s, P s → P (emit (.trace l) s)
  illegal : ∀ op s, P s → P (reportIllegal op s)
  tick : ∀ s, P s → P (ppuTick s)
  clearRequest : ∀ s, P s → P (s.setPpu { s.ppu with nmiRequest := false })

namespace KeptByIteration

variable {P : State → Prop} (k : KeptByIteration P)
include k

theorem sync {s : State} (h : P s) : P (sync s) := syncTimes_induct k.tick (fun t d => k.driver d t) _ s h

theorem drain {s : State} (h : P s) : P (drain s) := by
  unfold Machine.drain
  split
  · dsimp only
    split
    · exact k.sync (k.takeException _ _ _ (k.clearRequest _ h))
    · exact k.sync (k.clearRequest _ h)
  · exact h

theorem finishIteration {s : State} (h : P s) : P (finishIteration s) := k.drain (k.sync h)

/-- The check and the trace line keep `P`, whether the iteration is held or runs. -/
theorem startIteration {s u : State} (h : P (sampleDebug s).2)
    (hu : startIteration s = .hold u ∨ startIteration s = .run u) : P u := by
  obtain ⟨paused, hstart⟩ := startIteration_cases s
  have hchecked := k.driver { s.driver with paused := paused } _ h
  obtain hs | hs | hs := hstart <;> simp only [hs, Gate.hold.injEq, Gate.run.injEq, reduceCtorEq, or_false, false_or] at hu <;>
    subst hu
  · exact hchecked
  · exact hchecked
  · exact k.trace _ _ hchecked

/-- A step whose host input is drawn into a state with `P` ends in one. -/
theorem step {s t : State} (h : P (sampleDebug s).2) (hstep : step s = .next t) : P t := by
  obtain ⟨u, hu, hs⟩ | ⟨u, hu, hf⟩ := step_cases s
  · obtain rfl : t = u := by simpa [hs] using hstep.symm
    exact k.startIteration h (.inl hu)
  · have hfetched : P (fetch u).2 := fetch_induct k.read u (k.startIteration h (.inr hu))
    obtain ⟨i, v, hv, hs⟩ | ⟨op, v, hv, hs⟩ := hf <;> rw [hv] at hfetched <;> cases hstep.symm.trans hs
    · exact k.finishIteration (k.shapeRun _ hfetched)
    · exact k.finishIteration (k.illegal op v hfetched)

end KeptByIteration

/-! ### The diagnostic record only grows -/

/-- The diagnostics after a part of a step: more events at the end, and `illegal_seen` set exactly by a report among them
(10_state.md R29). -/
def DiagStep (d e : Diag) : Prop :=
  ∃ more, e.events = d.events ++ more ∧
    (e.illegalSeen = true ↔ d.illegalSeen = true ∨ ∃ pc op, Event.illegalInstruction pc op ∈ more)

theorem DiagStep.refl (d : Diag) : DiagStep d d := ⟨[], by simp, by simp⟩

theorem DiagStep.trans {c d e : Diag} (h : DiagStep c d) (k : DiagStep d e) : DiagStep c e := by
  obtain ⟨m, hm, hseen⟩ := h
  obtain ⟨n, hn, kseen⟩ := k
  refine ⟨m ++ n, by rw [hn, hm, List.append_assoc], ?_⟩
  rw [kseen, hseen, or_assoc]
  simp only [List.mem_append, exists_or]

/-- A trace line is no report. -/
theorem DiagStep.trace (l : TraceLine) (d : Diag) : DiagStep d { d with events := d.events ++ [.trace l] } :=
  ⟨[.trace l], rfl, by simp⟩

/-- An emitted frame is no report. -/
theorem DiagStep.frame (f : Frame) (d : Diag) : DiagStep d { d with events := d.events ++ [.frame f] } :=
  ⟨[.frame f], rfl, by simp⟩

/-- The report of an illegal opcode sets the mark (60_exceptions.md R300). -/
theorem DiagStep.report (pc : Word) (op : Byte) (d : Diag) :
    DiagStep d { illegalSeen := true, events := d.events ++ [.illegalInstruction pc op] } :=
  ⟨[.illegalInstruction pc op], rfl, by simp⟩

/-! ### Records, parameters and host inputs through an iteration -/

/-- From the draw of the host's input on: the diagnostics grow, the parameters stay, and of the host's inputs only the count of
button samples moves, upwards. -/
def RecordStep (s t : State) : Prop := DiagStep s.diag t.diag ∧ t.params = s.params ∧ HostStep s.host t.host

theorem RecordStep.refl (s : State) : RecordStep s s := ⟨.refl _, rfl, .refl _⟩

/-- A part of the iteration that only appends to the diagnostics. -/
theorem RecordStep.of_diag {s t u : State} (h : RecordStep s t) (hd : DiagStep t.diag u.diag) (hp : u.params = t.params)
    (hh : u.host = t.host) : RecordStep s u := by
  obtain ⟨hdiag, hparams, hhost⟩ := h
  exact ⟨hdiag.trans hd, hp.trans hparams, hh ▸ hhost⟩

theorem RecordStep.cpuRead {s t : State} (a : Word) (h : RecordStep s t) : RecordStep s (cpuRead a t).2 := by
  obtain ⟨hd, hp, hh⟩ := h
  exact ⟨by rwa [cpuRead_diag], by rwa [cpuRead_params], hh.trans (cpuRead_host a t)⟩

theorem RecordStep.cpuWrite {s t : State} (a : Word) (v : Byte) (h : RecordStep s t) : RecordStep s (cpuWrite a v t) := by
  obtain ⟨hd, hp, hh⟩ := h
  exact ⟨by rwa [cpuWrite_diag], by rwa [cpuWrite_params], hh.trans (cpuWrite_host a v t)⟩

/-- A tick writes the PPU and perhaps emits the frame. -/
theorem RecordStep.ppuTick {s t : State} (h : RecordStep s t) : RecordStep s (ppuTick t) :=
  ppuTick_induct h (fun _ _ h => h) (fun _ h => h) (fun _ h => h.of_diag (.frame _ _) rfl rfl)

/-- Every part of the iteration is a `RecordStep`. -/
theorem recordStep_kept (s : State) : KeptByIteration (RecordStep s) where
  read a _ h := h.cpuRead a
  write a v _ h := h.cpuWrite a v
  regs _ _ h := h
  driver _ _ h := h
  trace l _ h := h.of_diag (.trace l _) rfl rfl
  illegal op _ h := h.of_diag (.report _ op _) rfl rfl
  tick _ h := h.ppuTick
  clearRequest _ h := h

/-- The draw takes the next known input, or without one advances the count of draws; it leaves the buttons alone (00_scope.md R9). -/
theorem sampleDebug_inputs (s : State) : (sampleDebug s).2.host = { s.host with
    checks := s.host.checks.tail, checkDraws := s.host.checkDraws + (if s.host.checks.isEmpty then 1 else 0) } := by
  obtain ⟨d, rest, hc, h⟩ | ⟨hc, h, -⟩ := sampleDebug_cases s <;> simp [h, hc]

/-- A whole step: the draw, then a `RecordStep`. -/
theorem step_recordStep {s t : State} (h : step s = .next t) : RecordStep (sampleDebug s).2 t :=
  (recordStep_kept _).step (.refl _) h

/-- Settles O56: the draw of the host's input touches neither the records nor the parameters, and every later part of the iteration
is a `RecordStep`. -/
theorem recordsAndConfiguration : Obligations.RecordsAndConfiguration := by
  unfold Obligations.RecordsAndConfiguration
  refine ⟨fun s t h => ?_, fun s t h => ?_⟩
  · obtain ⟨hdiag, -, -⟩ := step_recordStep h
    rwa [sampleDebug_host] at hdiag
  · obtain ⟨-, hparams, hhost, hdraws⟩ := step_recordStep h
    rw [sampleDebug_inputs] at hhost hdraws
    rw [sampleDebug_host] at hparams
    rw [hhost]
    exact ⟨hparams, rfl, rfl, rfl, hdraws⟩

end Sys2Proof.Machine
end

section
/-!
PROOFS: the forms every step keeps (10_state.md R26, R30 to R33, R36, R42, R46), part by part of the iteration.
-/
namespace Sys2Proof.Machine

/-! ### The canonical form of the memories -/

/-- Every part of the iteration keeps the four memories canonical. -/
theorem memoryForm_kept : KeptByIteration (fun s => s.mem.wf = true) where
  read a s h := by rwa [cpuRead_mem]
  write a v s h := cpuWrite_wf a v h
  regs _ _ h := h
  driver _ _ h := h
  trace _ _ h := h
  illegal _ _ h := h
  tick s h := by rwa [ppuTick_mem]
  clearRequest _ h := h

/-- Settles O57: the draw of the host's input leaves the memories alone, and every later part of the iteration keeps their form. -/
theorem stepKeepsMemoryForm : Obligations.StepKeepsMemoryForm := by
  unfold Obligations.StepKeepsMemoryForm
  intro s t h hstep
  refine memoryForm_kept.step ?_ hstep
  rw [sampleDebug_host]
  exact h

/-! ### STATUS, the PPU counter and the controller cursor -/

/-- STATUS bits 6:0 stay 0 through an access, which at most clears VBlank. -/
theorem StatusStep.vblankOnly {u v : Ppu} (h : StatusStep u v) (hu : u.status &&& 0x7F#8 = 0#8) : v.status &&& 0x7F#8 = 0#8 := by
  obtain hv | hv := h <;> rw [hv]
  · exact hu
  · rw [BitVec.and_assoc, BitVec.and_self, hu]

/-- A tick advances the PPU counter by one, modulo the frame (60_exceptions.md R340). -/
theorem ppuTick_cycle (s : State) : (ppuTick s).ppu.cycle = (s.ppu.cycle + 1) % Config.frameLength := by
  obtain ⟨-, h⟩ | ⟨-, h⟩ | ⟨-, -, h⟩ := ppuTick_cases s <;> rw [h] <;> rfl

/-- A tick writes bit 7 of STATUS alone. -/
theorem ppuTick_vblankOnly {s : State} (h : VBlankOnly s) : VBlankOnly (ppuTick s) := by
  refine ppuTick_induct h (fun _ _ h => h) (fun t ht => ?_) (fun t ht => ?_)
  · show (t.ppu.status ||| 0x80#8) &&& 0x7F#8 = 0#8
    rw [BitVec.and_or_distrib_right, ht]
    rfl
  · show t.ppu.status &&& 0x7F#8 &&& 0x7F#8 = 0#8
    rw [BitVec.and_assoc, BitVec.and_self, ht]

/-- Every part of the iteration keeps STATUS bits 6:0 at 0 (R36). -/
theorem vblankOnly_kept : KeptByIteration VBlankOnly where
  read a s h := (cpuRead_status a s).vblankOnly h
  write a v s h := (cpuWrite_status a v s).vblankOnly h
  regs _ _ h := h
  driver _ _ h := h
  trace _ _ h := h
  illegal _ _ h := h
  tick _ h := ppuTick_vblankOnly h
  clearRequest _ h := h

/-- No access moves the PPU counter, and the cursor stays in its range. -/
theorem countersInRange_of_access {s t : State} (h : CountersInRange s) (ht : SameTiming s.ppu t.ppu) (hc : t.pad.cursor ≤ 8) :
    CountersInRange t := by
  obtain ⟨hcycle, -⟩ := ht
  exact ⟨hcycle ▸ h.1, hc⟩

/-- A tick leaves the counter below the frame's length, whatever it was. -/
theorem ppuTick_countersInRange {s : State} (h : CountersInRange s) : CountersInRange (ppuTick s) :=
  ⟨by rw [ppuTick_cycle]; exact Nat.mod_lt _ (by decide), by rw [ppuTick_pad]; exact h.2⟩

/-- Every part of the iteration keeps both counters in range (R42, R46). -/
theorem countersInRange_kept : KeptByIteration CountersInRange where
  read a s h := countersInRange_of_access h (cpuRead_timing a s) (cpuRead_cursor a s h.2)
  write a v s h := countersInRange_of_access h (cpuWrite_timing a v s) (cpuWrite_cursor a v s h.2)
  regs _ _ h := h
  driver _ _ h := h
  trace _ _ h := h
  illegal _ _ h := h
  tick _ h := ppuTick_countersInRange h
  clearRequest _ h := h

/-! ### The held bits of P -/

/-- `StatusHeld` speaks of P alone. -/
theorem StatusHeld.of_p {s t : State} (h : StatusHeld s) (hp : t.cpu.p = s.cpu.p) : StatusHeld t := by
  unfold StatusHeld
  rwa [hp]

theorem push_p (v : Byte) (s : State) : (push v s).cpu.p = s.cpu.p := by rw [push_eq]; rfl

theorem pushWord_p (w : Word) (s : State) : (pushWord w s).cpu.p = s.cpu.p := (push_p _ _).trans (push_p _ _)

theorem pull_p (s : State) : (pull s).2.cpu.p = s.cpu.p := by rw [pull_eq]; rfl

theorem pullWord_p (s : State) : (pullWord s).2.cpu.p = s.cpu.p := (pull_p _).trans (pull_p _)

/-- Taking an exception sets I in P (60_exceptions.md R304). -/
theorem takeException_p (saved vector : Word) (n : Nat) (s : State) :
    (takeException saved vector n s).cpu.p = setI true s.cpu.p := by
  simp only [takeException, retire_cpu, cpuReadPair_cpu, State.setCpu_cpu, push_p, pushWord_p]

/-- Returning from an exception stores the pulled byte as P (44_control_flow.md R213). -/
theorem returnFromException_p (n : Nat) (s : State) : (returnFromException n s).cpu.p = storedStatus (pull s).1 := by
  simp only [returnFromException, retire_cpu, pullWord_p, State.setCpu_cpu]

theorem takeException_statusHeld (saved vector : Word) (n : Nat) {s : State} (h : StatusHeld s) :
    StatusHeld (takeException saved vector n s) := by
  unfold StatusHeld at h ⊢
  rw [takeException_p]
  simpa using h

/-- A good change of the registers, on a state whose P is held. -/
theorem GoodRegs.statusHeld {f : Cpu → Cpu} (hf : GoodRegs f) {s t : State} (h : StatusHeld s) (ht : t.cpu.p = (f s.cpu).p) :
    StatusHeld t := by
  obtain ⟨h5, h4⟩ := h
  unfold StatusHeld
  rw [ht]
  exact (hf s.cpu).2 h5 h4

/-- A good shape keeps bits 5 and 4 of P. -/
theorem Shape.Good.statusHeld {sh : Shape} (hg : sh.Good) {s : State} (h : StatusHeld s) : StatusHeld (sh.run s) := by
  cases sh with
  | register f len base => exact hg.1.statusHeld h rfl
  | read f o len base pen => exact (hg.1 _).statusHeld h (by rw [Shape.run, readClass_eq]; rfl)
  | write value m len base => exact h.of_p (by rw [Shape.run, writeClass_eq]; rfl)
  | modify f m len base =>
    obtain ⟨h5, h4⟩ := h
    obtain ⟨k5, k4⟩ := hg.1 (cpuRead (resolve m s).1.addr (resolve m s).2).1 s.cpu.p
    rw [Shape.run, modifyClass_eq]
    exact ⟨k5.trans h5, k4.trans h4⟩
  | branch cond b1 => exact h
  | jump w base => exact h
  | jumpThrough w base => exact h.of_p (by rw [← resolve_cpu (.ind w) s]; rfl)
  | call w base => exact h.of_p (pushWord_p _ s)
  | back base => exact h.of_p (pullWord_p s)
  | exit base =>
    unfold StatusHeld
    rw [Shape.run, returnFromException_p]
    simp [storedStatus]
  | trap vector base => exact takeException_statusHeld _ _ _ h
  | push value base => exact h.of_p (push_p _ s)
  | pull f base => exact (hg.1 _).statusHeld (h.of_p (pull_p s)) rfl

theorem finishIteration_statusHeld {s : State} (h : StatusHeld s) : StatusHeld (finishIteration s) := by
  have hsync {t : State} (ht : StatusHeld t) : StatusHeld (sync t) := ht.of_p (congrArg Cpu.p (sync_cpu t))
  unfold finishIteration drain
  split
  · dsimp only
    split
    · exact hsync (takeException_statusHeld _ _ _ (hsync h))
    · exact hsync (hsync h)
  · exact hsync h

/-- The check and the trace line leave the CPU registers alone. -/
theorem startIteration_cpu {s u : State} (h : startIteration s = .hold u ∨ startIteration s = .run u) : u.cpu = s.cpu := by
  obtain ⟨paused, hs⟩ := startIteration_cases s
  rw [sampleDebug_host] at hs
  obtain hs | hs | hs := hs <;> rw [hs] at h <;> obtain h | h := h <;> cases h <;> rfl

/-- A fetch leaves the CPU registers alone (30_encoding.md R103). -/
theorem fetch_cpu (s : State) : (fetch s).2.cpu = s.cpu :=
  fetch_induct (P := fun t => t.cpu = s.cpu) (fun a t h => (cpuRead_cpu a t).trans h) s rfl

/-- A step keeps bits 5 and 4 of P (R26). -/
theorem step_statusHeld {s t : State} (h : StatusHeld s) (hstep : step s = .next t) : StatusHeld t := by
  obtain ⟨u, hu, hs⟩ | ⟨u, hu, hf⟩ := step_cases s
  · cases hstep.symm.trans hs
    exact h.of_p (congrArg Cpu.p (startIteration_cpu (.inl hu)))
  · have hcpu : (fetch u).2.cpu = s.cpu := (fetch_cpu u).trans (startIteration_cpu (.inr hu))
    have hfetched : StatusHeld (fetch u).2 := h.of_p (congrArg Cpu.p hcpu)
    obtain ⟨i, v, hv, hs⟩ | ⟨op, v, hv, hs⟩ := hf <;> rw [hv] at hfetched <;> cases hstep.symm.trans hs
    · exact finishIteration_statusHeld ((shape_good i).statusHeld hfetched)
    · exact finishIteration_statusHeld hfetched

/-- Settles O58: STATUS and the two counters are kept part by part of the iteration, P by the shapes of the instructions and the
exception entry. -/
theorem stepKeepsRegisterForms : Obligations.StepKeepsRegisterForms := by
  unfold Obligations.StepKeepsRegisterForms
  rintro s t ⟨hp, hv, hc⟩ hstep
  refine ⟨step_statusHeld hp hstep, vblankOnly_kept.step ?_ hstep, countersInRange_kept.step ?_ hstep⟩ <;> rw [sampleDebug_host]
  · exact hv
  · exact hc

end Sys2Proof.Machine
end

section
/-!
PROOFS: the reset values (10_state.md R49), and that reset and every cartridge load meet the invariants that steps keep.
-/
namespace Sys2Proof.Machine

/-! ### Reset -/

/-- Settles O6: the values of R49 one by one, the free ones as the log entries 1, 2 and 8 name them. -/
theorem resetValues : Obligations.ResetValues := by
  unfold Obligations.ResetValues
  exact ⟨rfl, rfl, rfl, fun _ => rfl, fun _ => rfl, fun _ => rfl, fun _ => rfl, rfl, rfl, rfl, rfl⟩

/-! ### Load -/

/-- Bytes at consecutive addresses inside an array are in canonical form from any lower bound. -/
theorem wfFrom_listFrom {size : Nat} (bytes : List Byte) {lo base : Nat} (hlo : lo ≤ base) (hsize : base + bytes.length ≤ size) :
    Memory.wfFrom size lo (listFrom base bytes) = true := by
  induction bytes generalizing lo base with
  | nil => rfl
  | cons b rest ih =>
    rw [List.length_cons] at hsize
    have hrest := ih (Nat.le_refl (base + 1)) (by omega)
    have hbase : base < size := by omega
    simp [listFrom, Memory.wfFrom, hlo, hbase, hrest]

/-- An accepted image has one or two program banks and at most one character bank (70_reset_and_hazards.md R409). -/
theorem banks_of_imageWellFormed {image : List Byte} (h : imageWellFormed image = true) :
    (prgBanks image = 1 ∨ prgBanks image = 2) ∧ (chrBanks image = 0 ∨ chrBanks image = 1) := by
  simpa [imageWellFormed, imageBanksFixed] using (Bool.and_eq_true_iff.1 h).2

/-- The program window of an accepted image fits above 0x8000 (R407). -/
theorem prgWindow_length_le {image : List Byte} (h : imageWellFormed image = true) : (prgWindow image).length ≤ 0x8000 := by
  have hprg : (imagePrg image).length ≤ 16384 * prgBanks image := List.length_take_le _ _
  obtain ⟨h1 | h2, -⟩ := banks_of_imageWellFormed h
  · rw [prgWindow, if_pos h1, List.length_append]
    omega
  · rw [prgWindow, if_neg (by omega)]
    omega

/-- The character data of an accepted image fits the pattern tables (R408). -/
theorem imageChr_length_le {image : List Byte} (h : imageWellFormed image = true) : (imageChr image).length ≤ 0x2000 := by
  have hchr : (imageChr image).length ≤ 8192 * chrBanks image := List.length_take_le _ _
  obtain ⟨-, hbanks⟩ := banks_of_imageWellFormed h
  omega

/-- A load that succeeds: the image is accepted, its bytes are in place, and every register but PC is as after reset (R406). -/
theorem loadCartridge_next {image : List Byte} {t : State} (h : loadCartridge image = .next t) :
    imageWellFormed image = true ∧
    t.mem = { cpu := listFrom 0x8000 (prgWindow image), ppu := listFrom 0 (imageChr image), nt := [], oam := [] } ∧
    t.cpu = { State.reset.cpu with pc := t.cpu.pc } ∧ t.ppu = State.reset.ppu ∧ t.pad = State.reset.pad ∧
    t.driver = State.reset.driver := by
  unfold loadCartridge at h
  split at h
  · cases h
    exact ⟨‹_›, rfl, rfl, rfl, rfl, rfl⟩
  · cases h

/-- The memories of an accepted image are canonical. -/
theorem cartridgeMems_wf {image : List Byte} (h : imageWellFormed image = true) :
    Mems.wf { cpu := listFrom 0x8000 (prgWindow image), ppu := listFrom 0 (imageChr image), nt := [], oam := [] } = true := by
  have hprg := prgWindow_length_le h
  have hchr := imageChr_length_le h
  simp only [Mems.wf, Memory.wf, Bool.and_eq_true]
  exact ⟨⟨⟨wfFrom_listFrom _ (by omega) (by omega), wfFrom_listFrom _ (by omega) (by omega)⟩, rfl⟩, rfl⟩

/-- What the invariants of the registers say of the state after reset they say of every state with its registers but PC. -/
theorem registerForms_of_reset {t : State} {pc : Word} (hcpu : t.cpu = { State.reset.cpu with pc := pc })
    (hppu : t.ppu = State.reset.ppu) (hpad : t.pad = State.reset.pad) (hdriver : t.driver = State.reset.driver) :
    StatusHeld t ∧ VBlankOnly t ∧ CountersInRange t ∧ ClockRatio t := by
  simp only [StatusHeld, VBlankOnly, CountersInRange, ClockRatio, hcpu, hppu, hpad, hdriver]
  exact ⟨⟨rfl, rfl⟩, rfl, ⟨by decide, by decide⟩, rfl, rfl, rfl⟩

/-- Settles O9: a load places bytes in canonical form and leaves every other register but PC as after reset. -/
theorem resetAndLoadMeetInvariants : Obligations.ResetAndLoadMeetInvariants := by
  unfold Obligations.ResetAndLoadMeetInvariants
  refine ⟨⟨rfl, registerForms_of_reset rfl rfl rfl rfl⟩, fun image t h => ?_⟩
  obtain ⟨hwf, hmem, hcpu, hppu, hpad, hdriver⟩ := loadCartridge_next h
  exact ⟨hmem ▸ cartridgeMems_wf hwf, registerForms_of_reset hcpu hppu hpad hdriver⟩

end Sys2Proof.Machine
end

section
/-!
PROOFS: what the CORE only records is never read (10_state.md R29, R41, R44, R45). Two machines that differ in recorded outputs alone
run every operation to the same answer and to two such machines, from the single bus access up to the whole step.
-/
namespace Sys2Proof.Machine

/-! ### The recorded outputs -/

/-- The fields that `SameButOutputs` leaves free. -/
structure Outputs where
  bus : BusLog
  diag : Diag
  scrollX : Byte
  scrollY : Byte
  frame : Option Frame
  frameCount : Nat

/-- `s` with other recorded outputs. -/
def State.withOutputs (s : State) (o : Outputs) : State :=
  { s with
    bus := o.bus, diag := o.diag
    ppu := { s.ppu with scrollX := o.scrollX, scrollY := o.scrollY, frame := o.frame, frameCount := o.frameCount } }

/-- Two machines agree but for their outputs when one is the other with some outputs put in. -/
theorem sameButOutputs_iff {s t : State} : SameButOutputs s t ↔ ∃ o, t = s.withOutputs o := by
  constructor
  · rintro ⟨hcpu, hmem, hpad, hdriver, hhost, hparams, hppu⟩
    refine ⟨⟨t.bus, t.diag, t.ppu.scrollX, t.ppu.scrollY, t.ppu.frame, t.ppu.frameCount⟩, ?_⟩
    unfold State.withOutputs
    rw [← hppu, ← hcpu, ← hmem, ← hpad, ← hdriver, ← hhost, ← hparams]
  · rintro ⟨o, rfl⟩
    exact ⟨rfl, rfl, rfl, rfl, rfl, rfl, rfl⟩

/-- An operation with an answer, run on both machines: the same answer, and states that agree but for their outputs. -/
structure SameRead {α : Type} (r r' : α × State) : Prop where
  value : r'.1 = r.1
  state : SameButOutputs r.2 r'.2

/-- The check lets both machines run or holds both. -/
inductive SameGate : Gate → Gate → Prop where
  | hold {s t : State} (h : SameButOutputs s t) : SameGate (.hold s) (.hold t)
  | run {s t : State} (h : SameButOutputs s t) : SameGate (.run s) (.run t)

/-- A choice that both sides make alike, under any relation. -/
theorem rel_ite {α β : Type} {r : α → β → Prop} {p : Prop} [Decidable p] {a a' : α} {b b' : β} (h : r a b) (k : r a' b') :
    r (if p then a else a') (if p then b else b') := by
  split
  · exact h
  · exact k

namespace SameButOutputs

variable {s t : State} (h : SameButOutputs s t)
include h

/-! ### What the two machines share -/

/-- A function of the state that no output enters has one value on both. -/
theorem value {α : Sort _} {g : State → α} (hg : ∀ o, g (s.withOutputs o) = g s) : g t = g s := by
  obtain ⟨o, rfl⟩ := sameButOutputs_iff.1 h
  exact hg o

/-- An operation that carries outputs along, or records new ones, keeps the two alike. -/
theorem map {f : State → State} (hf : ∀ o, ∃ o', f (s.withOutputs o) = (f s).withOutputs o') : SameButOutputs (f s) (f t) := by
  obtain ⟨o, rfl⟩ := sameButOutputs_iff.1 h
  exact sameButOutputs_iff.2 (hf o)

/-- The same for an operation with an answer that no output enters. -/
theorem mapRead {α : Type} {f : State → α × State} (hf : ∀ o, ∃ o', f (s.withOutputs o) = ((f s).1, (f s).2.withOutputs o')) :
    SameRead (f s) (f t) := by
  obtain ⟨o, rfl⟩ := sameButOutputs_iff.1 h
  obtain ⟨o', ho⟩ := hf o
  rw [ho]
  exact ⟨rfl, sameButOutputs_iff.2 ⟨o', rfl⟩⟩

theorem cpu : t.cpu = s.cpu := h.value fun _ => rfl

theorem pad : t.pad = s.pad := h.value fun _ => rfl

theorem driver : t.driver = s.driver := h.value fun _ => rfl

theorem host : t.host = s.host := h.value fun _ => rfl

theorem params : t.params = s.params := h.value fun _ => rfl

theorem ppu_ctrl : t.ppu.ctrl = s.ppu.ctrl := h.value (g := fun s => s.ppu.ctrl) fun _ => rfl

theorem ppu_mask : t.ppu.mask = s.ppu.mask := h.value (g := fun s => s.ppu.mask) fun _ => rfl

theorem ppu_w : t.ppu.w = s.ppu.w := h.value (g := fun s => s.ppu.w) fun _ => rfl

theorem ppu_intlAddr : t.ppu.intlAddr = s.ppu.intlAddr := h.value (g := fun s => s.ppu.intlAddr) fun _ => rfl

theorem ppu_cycle : t.ppu.cycle = s.ppu.cycle := h.value (g := fun s => s.ppu.cycle) fun _ => rfl

theorem ppu_nmiRequest : t.ppu.nmiRequest = s.ppu.nmiRequest := h.value (g := fun s => s.ppu.nmiRequest) fun _ => rfl

theorem nextPc (len : Nat) : nextPc len t = nextPc len s := h.value fun _ => rfl

theorem crossExtra (pen crossed : Bool) : crossExtra pen crossed t = crossExtra pen crossed s := h.value fun _ => rfl

theorem branchExtra (taken : Bool) (npc target : Word) : branchExtra taken npc target t = branchExtra taken npc target s :=
  h.value fun _ => rfl

theorem ppuRead (a : Word) : ppuRead a t = ppuRead a s := h.value fun _ => rfl

/-- One change of the CPU registers, made on both. -/
theorem mapCpu (f : Cpu → Cpu) : SameButOutputs (s.setCpu (f s.cpu)) (t.setCpu (f t.cpu)) :=
  h.map (f := fun s => s.setCpu (f s.cpu)) fun o => ⟨o, rfl⟩

theorem setCpu (c : Cpu) : SameButOutputs (s.setCpu c) (t.setCpu c) := h.mapCpu fun _ => c

theorem setPad (d : Pad) : SameButOutputs (s.setPad d) (t.setPad d) := h.map (f := (·.setPad d)) fun o => ⟨o, rfl⟩

theorem setDriver (d : Driver) : SameButOutputs (s.setDriver d) (t.setDriver d) := h.map (f := (·.setDriver d)) fun o => ⟨o, rfl⟩

theorem setHost (i : HostInput) : SameButOutputs (s.setHost i) (t.setHost i) := h.map (f := (·.setHost i)) fun o => ⟨o, rfl⟩

/-- The transaction log may change in any way. -/
theorem setBus (b c : BusLog) : SameButOutputs (s.setBus b) (t.setBus c) := h

/-- The diagnostics may change in any way. -/
theorem setDiag (d e : Diag) : SameButOutputs (s.setDiag d) (t.setDiag e) := h

theorem retire (pc : Word) (n : Nat) : SameButOutputs (retire pc n s) (retire pc n t) := h.map fun o => ⟨o, rfl⟩

theorem putOamByte (i : Nat) (v : Byte) : SameButOutputs (putOamByte i v s) (putOamByte i v t) := h.map fun o => ⟨o, rfl⟩

theorem logRead (p : Word) : SameButOutputs (logRead p s) (logRead p t) := h.setBus _ _

theorem logWrite (p : Word) : SameButOutputs (logWrite p s) (logWrite p t) := h.setBus _ _

theorem emit (e : Event) : SameButOutputs (emit e s) (emit e t) := h.setDiag _ _

/-! ### The devices -/

theorem sampleButtons : SameRead (sampleButtons s) (sampleButtons t) := by
  simp only [Machine.sampleButtons, h.host]
  split
  · exact ⟨rfl, h⟩
  · exact ⟨rfl, h.setHost _⟩

theorem readPad : SameRead (readPad s) (readPad t) := by
  have hm := h.sampleButtons
  simp only [Machine.readPad, h.pad, hm.value, hm.state.pad]
  split
  · exact ⟨rfl, hm.state.setPad _⟩
  · refine ⟨rfl, ?_⟩
    dsimp only
    split
    · exact h.setPad _
    · exact h

theorem writePad (v : Byte) : SameButOutputs (writePad v s) (writePad v t) := by
  have hm := h.sampleButtons
  simp only [Machine.writePad, h.pad, hm.value, hm.state.pad]
  split
  · exact hm.state.setPad _
  · split
    · exact hm.state.setPad _
    · exact h.setPad _

theorem readStatus : SameRead (readStatus s) (readStatus t) := h.mapRead fun o => ⟨o, rfl⟩

theorem readData : SameRead (readData s) (readData t) :=
  h.mapRead fun o => ⟨o, by
    unfold Machine.readData
    dsimp only [State.withOutputs]
    split <;> rfl⟩

theorem writeCtrl (v : Byte) : SameButOutputs (writeCtrl v s) (writeCtrl v t) := h.map fun o => ⟨o, rfl⟩

theorem writeMask (v : Byte) : SameButOutputs (writeMask v s) (writeMask v t) := h.map fun o => ⟨o, rfl⟩

theorem writeOamaddr (v : Byte) : SameButOutputs (writeOamaddr v s) (writeOamaddr v t) := h.map fun o => ⟨o, rfl⟩

theorem writeOamdata (v : Byte) : SameButOutputs (writeOamdata v s) (writeOamdata v t) := h.map fun o => ⟨o, rfl⟩

theorem ppuWrite (a : Word) (v : Byte) : SameButOutputs (ppuWrite a v s) (ppuWrite a v t) := by
  simp only [Machine.ppuWrite, h.params]
  split
  · exact h.map fun o => ⟨o, rfl⟩
  · exact h.map fun o => ⟨o, rfl⟩

theorem advanceIntlAddr : SameButOutputs (advanceIntlAddr s) (advanceIntlAddr t) := h.map fun o => ⟨o, rfl⟩

theorem writeData (v : Byte) : SameButOutputs (writeData v s) (writeData v t) := by
  simp only [Machine.writeData, h.ppu_intlAddr]
  exact (h.ppuWrite _ v).advanceIntlAddr

/-- The scroll bytes are written and not read (R326). -/
theorem writeScroll (v : Byte) : SameButOutputs (writeScroll v s) (writeScroll v t) := by
  simp only [Machine.writeScroll, h.ppu_w]
  split
  · exact h.map (f := fun s => s.setPpu { s.ppu with scrollY := v, w := false }) fun o => ⟨{ o with scrollY := v }, rfl⟩
  · exact h.map (f := fun s => s.setPpu { s.ppu with scrollX := v, w := true }) fun o => ⟨{ o with scrollX := v }, rfl⟩

theorem writeAddr (v : Byte) : SameButOutputs (writeAddr v s) (writeAddr v t) := by
  simp only [Machine.writeAddr, h.ppu_w]
  split
  · exact h.map (f := fun s => s.setPpu { s.ppu with intlAddr := (s.ppu.intlAddr &&& 0xFF00#16) ||| v.setWidth 16, w := false })
      fun o => ⟨o, rfl⟩
  · exact h.map (f := fun s => s.setPpu { s.ppu with intlAddr := (s.ppu.intlAddr &&& 0x00FF#16) ||| (v.setWidth 16 <<< 8), w := true })
      fun o => ⟨o, rfl⟩

/-! ### The bus -/

theorem ppuTryRead (p : Word) : Option.Rel SameRead (ppuTryRead p s) (ppuTryRead p t) := by
  have hoam : t.oamByte t.ppu.oamaddr.toNat = s.oamByte s.ppu.oamaddr.toNat :=
    h.value (g := fun s => s.oamByte s.ppu.oamaddr.toNat) fun _ => rfl
  unfold Machine.ppuTryRead
  exact rel_ite (.some ⟨h.ppu_ctrl, h⟩) <| rel_ite (.some ⟨h.ppu_mask, h⟩) <| rel_ite (.some h.readStatus) <|
    rel_ite (.some ⟨hoam, h⟩) <| rel_ite (.some h.readData) .none

theorem padTryRead (p : Word) : Option.Rel SameRead (padTryRead p s) (padTryRead p t) := by
  unfold Machine.padTryRead
  exact rel_ite (.some h.readPad) .none

theorem cpuRead (a : Word) : SameRead (cpuRead a s) (cpuRead a t) := by
  have hlog := h.logRead (cpuMirror a)
  have hppu := hlog.ppuTryRead (cpuMirror a)
  have hpad := hlog.padTryRead (cpuMirror a)
  simp only [Machine.cpuRead, readHooks, askReadHooks]
  revert hppu hpad
  generalize Machine.ppuTryRead _ _ = r, Machine.ppuTryRead _ _ = r', Machine.padTryRead _ _ = q, Machine.padTryRead _ _ = q'
  rintro (hr | _) (hq | _)
  · exact hr
  · exact hr
  · exact hq
  · exact ⟨hlog.value (g := fun s => s.cpuByte (cpuMirror a).toNat) fun _ => rfl, hlog⟩

theorem oamDmaFrom (page : Byte) (n i : Nat) : SameButOutputs (oamDmaFrom page n i s) (oamDmaFrom page n i t) := by
  induction n generalizing i s t with
  | zero => exact h
  | succ n ih =>
    have hr := h.cpuRead (wordOf page 0#8 + BitVec.ofNat 16 i)
    simp only [Machine.oamDmaFrom, hr.value]
    exact ih (hr.state.putOamByte i _) (i + 1)

theorem ppuTryWrite (p : Word) (v : Byte) : Option.Rel SameButOutputs (ppuTryWrite p v s) (ppuTryWrite p v t) := by
  unfold Machine.ppuTryWrite
  exact rel_ite (.some (h.writeCtrl v)) <| rel_ite (.some (h.writeMask v)) <| rel_ite (.some h) <|
    rel_ite (.some (h.writeOamaddr v)) <| rel_ite (.some (h.writeOamdata v)) <| rel_ite (.some (h.writeScroll v)) <|
    rel_ite (.some (h.writeAddr v)) <| rel_ite (.some (h.writeData v)) <| rel_ite (.some (h.oamDmaFrom v 256 0)) .none

theorem padTryWrite (p : Word) (v : Byte) : Option.Rel SameButOutputs (padTryWrite p v s) (padTryWrite p v t) := by
  unfold Machine.padTryWrite
  exact rel_ite (.some (h.writePad v)) .none

theorem cpuWrite (a : Word) (v : Byte) : SameButOutputs (cpuWrite a v s) (cpuWrite a v t) := by
  have hlog := h.logWrite (cpuMirror a)
  have hppu := hlog.ppuTryWrite (cpuMirror a) v
  have hpad := hlog.padTryWrite (cpuMirror a) v
  simp only [Machine.cpuWrite, writeHooks, askWriteHooks]
  revert hppu hpad
  generalize Machine.ppuTryWrite _ _ _ = r, Machine.ppuTryWrite _ _ _ = r', Machine.padTryWrite _ _ _ = q,
    Machine.padTryWrite _ _ _ = q'
  rintro (hr | _) (hq | _)
  · exact hr
  · exact hr
  · exact hq
  · exact hlog.map fun o => ⟨o, rfl⟩

/-! ### Operands and the stack -/

theorem cpuReadPair (lo hi : Word) : SameRead (cpuReadPair lo hi s) (cpuReadPair lo hi t) := by
  have hl := h.cpuRead lo
  have hh := hl.state.cpuRead hi
  exact ⟨congrArg₂ wordOf hh.value hl.value, hh.state⟩

theorem resolve (m : Mode) : SameRead (resolve m s) (resolve m t) := by
  cases m with
  | ind w =>
    have hr := h.cpuReadPair w (samePageNext w)
    exact ⟨congrArg (Ea.mk · false) hr.value, hr.state⟩
  | indX d =>
    have hr := h.cpuReadPair (zeroPage (d + s.cpu.x)) (zeroPage (d + s.cpu.x + 1#8))
    simp only [Machine.resolve, h.cpu]
    exact ⟨congrArg (Ea.mk · false) hr.value, hr.state⟩
  | indY d =>
    have hr := h.cpuReadPair (zeroPage d) (zeroPage (d + 1#8))
    simp only [Machine.resolve, h.cpu]
    exact ⟨congrArg (indexed · s.cpu.y) hr.value, hr.state⟩
  | _ => exact h.mapRead fun o => ⟨o, rfl⟩

theorem readOperand (o : Operand) : SameRead (readOperand o s) (readOperand o t) := by
  cases o with
  | imm v => exact ⟨rfl, h⟩
  | mem m =>
    have he := h.resolve m
    have hr := he.state.cpuRead (Machine.resolve m s).1.addr
    simp only [Machine.readOperand, he.value]
    exact ⟨congrArg (·, (Machine.resolve m s).1.crossed) hr.value, hr.state⟩

theorem push (v : Byte) : SameButOutputs (push v s) (push v t) := by
  unfold Machine.push
  rw [h.cpu]
  exact (h.cpuWrite _ v).mapCpu fun c => { c with sp := c.sp - 1#8 }

theorem pull : SameRead (pull s) (pull t) := by
  unfold Machine.pull
  rw [h.cpu]
  exact (h.setCpu { s.cpu with sp := s.cpu.sp + 1#8 }).cpuRead _

theorem pushWord (w : Word) : SameButOutputs (pushWord w s) (pushWord w t) := (h.push _).push _

theorem pullWord : SameRead (pullWord s) (pullWord t) := by
  have hl := h.pull
  have hh := hl.state.pull
  exact ⟨congrArg₂ wordOf hh.value hl.value, hh.state⟩

/-! ### Instructions -/

theorem takeException (saved vector : Word) (n : Nat) :
    SameButOutputs (takeException saved vector n s) (takeException saved vector n t) := by
  have hpushed := (h.pushWord saved).push (pushedStatus s.cpu.p)
  have hv := (hpushed.mapCpu fun c => { c with p := setI true c.p }).cpuReadPair vector (vector + 1#16)
  simp only [Machine.takeException, h.cpu, hv.value]
  exact hv.state.retire _ n

theorem interrupt (vector : Word) : SameButOutputs (interrupt vector s) (interrupt vector t) := by
  unfold Machine.interrupt
  rw [h.cpu]
  exact h.takeException _ vector 7

theorem returnFromException (n : Nat) : SameButOutputs (returnFromException n s) (returnFromException n t) := by
  have hp := h.pull
  have hpc := (hp.state.mapCpu fun c => { c with p := storedStatus (Machine.pull s).1 }).pullWord
  simp only [Machine.returnFromException, hp.value, hpc.value]
  exact hpc.state.retire _ n

/-- An instruction of any shape. -/
theorem shapeRun (sh : Shape) : SameButOutputs (sh.run s) (sh.run t) := by
  cases sh with
  | register f len base =>
    simp only [Shape.run, registerClass, h.nextPc]
    exact (h.mapCpu f).retire _ base
  | read f o len base pen =>
    have ho := h.readOperand o
    simp only [Shape.run, readClass, h.nextPc, h.crossExtra, ho.value]
    exact (ho.state.mapCpu (f _)).retire _ _
  | write value m len base =>
    have he := h.resolve m
    simp only [Shape.run, writeClass, h.nextPc, h.cpu, he.value]
    exact (he.state.cpuWrite _ _).retire _ base
  | modify f m len base =>
    have he := h.resolve m
    have hr := he.state.cpuRead (Machine.resolve m s).1.addr
    simp only [Shape.run, modifyClass, h.nextPc, he.value, hr.value, hr.state.cpu]
    exact ((hr.state.cpuWrite _ _).mapCpu fun c => { c with p := _ }).retire _ base
  | branch cond b1 =>
    simp only [Shape.run, branchClass, h.nextPc, h.cpu, h.branchExtra]
    exact h.retire _ _
  | jump w base => exact h.retire w base
  | jumpThrough w base =>
    have he := h.resolve (.ind w)
    simp only [Shape.run, Machine.jumpThrough, he.value]
    exact he.state.retire _ base
  | call w base =>
    simp only [Shape.run, h.nextPc]
    exact (h.pushWord _).retire w base
  | back base =>
    have h.ppu_w := h.pullWord
    simp only [Shape.run, returnToCaller, h.ppu_w.value]
    exact h.ppu_w.state.retire _ base
  | exit base => exact h.returnFromException base
  | trap vector base =>
    simp only [Shape.run, h.nextPc]
    exact h.takeException _ vector base
  | push value base =>
    simp only [Shape.run, h.nextPc, h.cpu]
    exact (h.push _).retire _ base
  | pull f base =>
    have hr := h.pull
    simp only [Shape.run, pullInto, h.nextPc, hr.value]
    exact (hr.state.mapCpu (f _)).retire _ base

theorem reportIllegal (op : Byte) : SameButOutputs (reportIllegal op s) (reportIllegal op t) := by
  simp only [Machine.reportIllegal, h.nextPc, h.cpu]
  exact ((h.emit _).setDiag _ _).retire _ 2

theorem fetch : SameRead (fetch s) (fetch t) := by
  have hop := h.cpuRead s.cpu.pc
  have hb1 := hop.state.cpuRead (s.cpu.pc + 1#16)
  have hb2 := hb1.state.cpuRead (s.cpu.pc + 2#16)
  simp only [Machine.fetch, h.cpu, hop.value, hb1.value, hb2.value]
  split
  · exact ⟨rfl, hop.state⟩
  · exact ⟨rfl, hop.state⟩
  · exact ⟨rfl, hb1.state⟩
  · exact ⟨rfl, hb2.state⟩

/-! ### The rest of the iteration -/

theorem setVBlank : SameButOutputs (setVBlank s) (setVBlank t) := h.map fun o => ⟨o, rfl⟩

/-- The frame, its count and the events are written and not read (R342). -/
theorem completeFrame : SameButOutputs (completeFrame s) (completeFrame t) :=
  h.map fun o =>
    let u := Machine.completeFrame (s.withOutputs o)
    ⟨⟨u.bus, u.diag, u.ppu.scrollX, u.ppu.scrollY, u.ppu.frame, u.ppu.frameCount⟩, rfl⟩

theorem ppuTick : SameButOutputs (ppuTick s) (ppuTick t) := by
  have hcounted (n : Nat) : SameButOutputs (s.setPpu { s.ppu with cycle := n }) (t.setPpu { t.ppu with cycle := n }) :=
    h.map (f := fun s => s.setPpu { s.ppu with cycle := n }) fun o => ⟨o, rfl⟩
  unfold Machine.ppuTick
  rw [h.ppu_cycle]
  generalize (s.ppu.cycle + 1) % Config.frameLength = c
  have hset := rel_ite (p := c = Config.vblankSetCycle) (hcounted c).setVBlank (hcounted c)
  exact rel_ite hset.completeFrame hset

theorem syncOne : SameButOutputs (syncOne s) (syncOne t) := by
  have ht := h.ppuTick.ppuTick.ppuTick
  simp only [Machine.syncOne, ht.driver]
  exact ht.setDriver _

theorem syncTimes (n : Nat) : SameButOutputs (syncTimes n s) (syncTimes n t) := by
  induction n generalizing s t with
  | zero => exact h
  | succ n ih => exact ih h.syncOne

theorem sync : SameButOutputs (sync s) (sync t) := by
  unfold Machine.sync
  rw [h.cpu, h.driver]
  exact h.syncTimes _

theorem drain : SameButOutputs (drain s) (drain t) := by
  have hcleared : SameButOutputs (s.setPpu { s.ppu with nmiRequest := false }) (t.setPpu { t.ppu with nmiRequest := false }) :=
    h.map (f := fun s => s.setPpu { s.ppu with nmiRequest := false }) fun o => ⟨o, rfl⟩
  unfold Machine.drain
  rw [h.ppu_nmiRequest]
  revert hcleared
  generalize s.setPpu _ = u, t.setPpu _ = u'
  intro hcleared
  dsimp only
  rw [hcleared.ppu_ctrl]
  split
  · split
    · exact (hcleared.interrupt _).sync
    · exact hcleared.sync
  · exact h

theorem finishIteration : SameButOutputs (finishIteration s) (finishIteration t) := h.sync.drain

/-! ### The step -/

theorem sampleDebug : SameRead (sampleDebug s) (sampleDebug t) := by
  simp only [Machine.sampleDebug, h.host]
  split
  · exact ⟨rfl, h.setHost _⟩
  · exact ⟨rfl, h.setHost _⟩

theorem breakpointGate (d : DebugInput) : SameGate (breakpointGate d s) (breakpointGate d t) := by
  simp only [Machine.breakpointGate, h.cpu, h.driver]
  split
  · exact .run h
  · exact .run (h.setDriver _)
  · split
    · exact .hold h
    · split
      · exact .hold (h.setDriver _)
      · exact .run h

theorem trace (tracing : Bool) : SameButOutputs (trace tracing s) (trace tracing t) := by
  cases tracing with
  | false => exact h
  | true => simp only [Machine.trace, traceLine, h.cpu]; exact h.emit _

theorem startIteration : SameGate (startIteration s) (startIteration t) := by
  have hd := h.sampleDebug
  have hg := hd.state.breakpointGate (Machine.sampleDebug s).1
  simp only [Machine.startIteration, hd.value]
  revert hg
  generalize Machine.breakpointGate _ _ = g, Machine.breakpointGate _ _ = g'
  rintro (hs | hs)
  · exact .hold hs
  · exact .run (hs.trace _)

theorem cpuStep : ∃ u u', cpuStep s = .next u ∧ cpuStep t = .next u' ∧ SameButOutputs u u' := by
  have hf := h.fetch
  unfold Machine.cpuStep
  revert hf
  generalize Machine.fetch s = r, Machine.fetch t = r'
  obtain ⟨f, x⟩ := r
  obtain ⟨f', x'⟩ := r'
  rintro ⟨hv : f' = f, hx : SameButOutputs x x'⟩
  subst hv
  cases f' with
  | instr i =>
    exact ⟨_, _, congrArg afterExec (exec_shape i x), congrArg afterExec (exec_shape i x'), (hx.shapeRun _).finishIteration⟩
  | illegal op => exact ⟨_, _, rfl, rfl, (hx.reportIllegal op).finishIteration⟩

theorem step : ∃ u u', step s = .next u ∧ step t = .next u' ∧ SameButOutputs u u' := by
  have hg := h.startIteration
  unfold Machine.step
  revert hg
  generalize Machine.startIteration s = g, Machine.startIteration t = g'
  rintro (hs | hs)
  · exact ⟨_, _, rfl, rfl, hs⟩
  · exact hs.cpuStep

end SameButOutputs

/-- Settles O60: every operation of the iteration takes two machines that agree but for their outputs to two such machines. -/
theorem outputsAreNeverRead : Obligations.OutputsAreNeverRead := by
  unfold Obligations.OutputsAreNeverRead
  intro s s' h
  exact h.step

end Sys2Proof.Machine
end

section
/-!
PROOFS: address mirroring (20_memory.md R62 to R65) and the slots of PPU space (R72), each function by its numeric value.
-/
namespace Sys2Proof.Machine

/-- Masking with `k` low ones is the remainder mod `2 ^ k`. -/
theorem toNat_and_lowMask (a : Word) {k : Nat} (hk : k ≤ 16) : (a &&& BitVec.ofNat 16 (2 ^ k - 1)).toNat = a.toNat % 2 ^ k := by
  have hpow : 2 ^ k ≤ 2 ^ 16 := Nat.pow_le_pow_right (by decide) hk
  have hmask : (2 ^ k - 1) % 2 ^ 16 = 2 ^ k - 1 := Nat.mod_eq_of_lt (by omega)
  rw [BitVec.toNat_and, BitVec.toNat_ofNat, hmask, Nat.and_two_pow_sub_one_eq_mod]

/-! ### The CPU mirror -/

theorem cpuMirror_toNat (a : Word) : (cpuMirror a).toNat =
    if a.toNat ≤ 0x1FFF then a.toNat % 0x800 else if a.toNat ≤ 0x3FFF then 0x2000 + a.toNat % 8 else a.toNat := by
  have hram : (a &&& 0x07FF#16).toNat = a.toNat % 0x800 := toNat_and_lowMask a (k := 11) (by decide)
  have hppu : (a &&& 0x0007#16).toNat = a.toNat % 8 := toNat_and_lowMask a (k := 3) (by decide)
  simp only [cpuMirror, BitVec.le_def, BitVec.toNat_ofNat, Nat.reducePow, Nat.reduceMod]
  split
  · exact hram
  · split
    · rw [BitVec.toNat_add, hppu, BitVec.toNat_ofNat]
      omega
    · rfl

/-- The canonical CPU addresses are the ones the mirror leaves alone (R63). -/
theorem cpuMirror_eq_self_iff (a : Word) :
    cpuMirror a = a ↔ a.toNat ≤ 0x7FF ∨ (0x2000 ≤ a.toNat ∧ a.toNat ≤ 0x2007) ∨ 0x4000 ≤ a.toNat := by
  rw [← BitVec.toNat_inj, cpuMirror_toNat]
  split
  · omega
  · split <;> omega

theorem cpuMirror_cpuMirror (a : Word) : cpuMirror (cpuMirror a) = cpuMirror a := by
  rw [cpuMirror_eq_self_iff, cpuMirror_toNat]
  split
  · omega
  · split <;> omega

/-- Settles O10: every value of the mirror is one of its fixed points, and those are the canonical addresses. -/
theorem cpuMirrorRanges : Obligations.CpuMirrorRanges := by
  unfold Obligations.CpuMirrorRanges
  intro a
  refine ⟨cpuMirror_toNat a, cpuMirror_cpuMirror a, ?_, fun h => ⟨a, (cpuMirror_eq_self_iff a).2 h⟩⟩
  rintro ⟨b, rfl⟩
  exact (cpuMirror_eq_self_iff _).1 (cpuMirror_cpuMirror b)

/-! ### The nametable fold -/

theorem ntFold_vertical_toNat (a : Word) : (ntFold .vertical a).toNat = a.toNat % 0x800 := toNat_and_lowMask a (k := 11) (by decide)

theorem ntFold_horizontal_toNat {a : Word} (hlo : 0x2000 ≤ a.toNat) :
    (ntFold .horizontal a).toNat = ((a.toNat - 0x2000) / 0x400 / 2) * 0x400 + a.toNat % 0x400 := by
  have hlow : (a &&& 0x03FF#16).toNat = a.toNat % 0x400 := toNat_and_lowMask a (k := 10) (by decide)
  have hsub : (a - 0x2000#16).toNat = a.toNat - 0x2000 := BitVec.toNat_sub_of_le hlo
  have htop : (((a - 0x2000#16) >>> 10 >>> 1) <<< 10).toNat = ((a.toNat - 0x2000) / 0x400 / 2) <<< 10 := by
    simp only [BitVec.toNat_shiftLeft, BitVec.toNat_ushiftRight, hsub, Nat.shiftRight_eq_div_pow, Nat.shiftLeft_eq]
    omega
  have hlt : a.toNat % 0x400 < 2 ^ 10 := Nat.mod_lt _ (by decide)
  simp only [ntFold, BitVec.toNat_or, htop, hlow]
  rw [← Nat.shiftLeft_add_eq_or_of_lt hlt, Nat.shiftLeft_eq]

theorem ntFold_toNat_le (m : Mirroring) {a : Word} (hlo : 0x2000 ≤ a.toNat) (hhi : a.toNat ≤ 0x2FFF) :
    (ntFold m a).toNat ≤ 0x7FF := by
  cases m with
  | vertical => rw [ntFold_vertical_toNat]; omega
  | horizontal => rw [ntFold_horizontal_toNat hlo]; omega

/-! ### The PPU mirror -/

/-- The canonical form of offset `k` in the nametable region, as an offset (R64). -/
def ntOffset : Mirroring → Nat → Nat
  | .vertical, k => k % 0x800
  | .horizontal, k => 0x800 * (k / 0x800) + k % 0x400

theorem ntOffset_lt (m : Mirroring) {k : Nat} (hk : k < 0x1000) : ntOffset m k < 0x1000 := by
  cases m <;> simp only [ntOffset] <;> omega

theorem ntOffset_ntOffset (m : Mirroring) (k : Nat) : ntOffset m (ntOffset m k) = ntOffset m k := by
  cases m <;> simp only [ntOffset] <;> omega

theorem ntCanonical_toNat (m : Mirroring) {a : Word} (hlo : 0x2000 ≤ a.toNat) (hhi : a.toNat ≤ 0x2FFF) :
    (ntCanonical m a).toNat = 0x2000 + ntOffset m (a.toNat % 0x1000) := by
  cases m with
  | vertical =>
    simp only [ntCanonical, ntOffset, BitVec.toNat_add, ntFold_vertical_toNat, BitVec.toNat_ofNat]
    omega
  | horizontal =>
    have hlow : (a &&& 0x3FF#16).toNat = a.toNat % 0x400 := toNat_and_lowMask a (k := 10) (by decide)
    simp only [ntCanonical, ntOffset, BitVec.toNat_add, BitVec.toNat_mul, BitVec.toNat_ushiftRight, Nat.shiftRight_eq_div_pow,
      ntFold_horizontal_toNat hlo, hlow, BitVec.toNat_ofNat]
    omega

/-- The second line of R64: the top of the nametable region lies 0x1000 lower. -/
def mirrorTop (a : Word) : Word := if 0x3000#16 ≤ a ∧ a ≤ 0x3EFF#16 then a - 0x1000#16 else a

/-- The palette line of R64. -/
def mirrorPalette (a : Word) : Word := if 0x3F20#16 ≤ a ∧ a ≤ 0x3FFF#16 then 0x3F00#16 + (a &&& 0x1F#16) else a

theorem ppuMirror_eq (m : Mirroring) (addr : Word) : ppuMirror m addr =
    let c := mirrorPalette (mirrorTop (addr &&& 0x3FFF#16))
    if 0x2000 ≤ c.toNat ∧ c.toNat ≤ 0x2FFF then ntCanonical m c else c := rfl

theorem mirrorTop_toNat (a : Word) :
    (mirrorTop a).toNat = if 0x3000 ≤ a.toNat ∧ a.toNat ≤ 0x3EFF then a.toNat - 0x1000 else a.toNat := by
  simp only [mirrorTop, BitVec.le_def, BitVec.toNat_ofNat, Nat.reducePow, Nat.reduceMod]
  split
  · rename_i h
    exact BitVec.toNat_sub_of_le (Nat.le_trans (by decide) h.1)
  · rfl

theorem mirrorPalette_toNat (a : Word) :
    (mirrorPalette a).toNat = if 0x3F20 ≤ a.toNat ∧ a.toNat ≤ 0x3FFF then 0x3F00 + a.toNat % 0x20 else a.toNat := by
  have hlow : (a &&& 0x1F#16).toNat = a.toNat % 0x20 := toNat_and_lowMask a (k := 5) (by decide)
  simp only [mirrorPalette, BitVec.le_def, BitVec.toNat_ofNat, Nat.reducePow, Nat.reduceMod]
  split
  · rw [BitVec.toNat_add, hlow, BitVec.toNat_ofNat]
    omega
  · rfl

/-- Both lines on an address of the 14-bit PPU space. -/
theorem mirrorPalette_mirrorTop_toNat {a : Word} (ha : a.toNat < 0x4000) : (mirrorPalette (mirrorTop a)).toNat =
    if 0x3F00 ≤ a.toNat then 0x3F00 + a.toNat % 0x20 else if 0x3000 ≤ a.toNat then a.toNat - 0x1000 else a.toNat := by
  by_cases htop : 0x3000 ≤ a.toNat ∧ a.toNat ≤ 0x3EFF
  · rw [mirrorPalette_toNat, mirrorTop_toNat, if_pos htop, if_neg (by omega), if_neg (by omega), if_pos htop.1]
  · rw [mirrorPalette_toNat, mirrorTop_toNat, if_neg htop]
    by_cases hpalette : 0x3F00 ≤ a.toNat
    · rw [if_pos hpalette]
      split <;> omega
    · rw [if_neg (by omega), if_neg hpalette, if_neg (by omega)]

theorem ppuMirror_toNat (m : Mirroring) (addr : Word) : (ppuMirror m addr).toNat =
    if addr.toNat % 0x4000 < 0x2000 then addr.toNat % 0x4000
    else if 0x3F00 ≤ addr.toNat % 0x4000 then 0x3F00 + addr.toNat % 0x4000 % 0x20
    else 0x2000 + ntOffset m (addr.toNat % 0x4000 % 0x1000) := by
  have hmask : (addr &&& 0x3FFF#16).toNat = addr.toNat % 0x4000 := toNat_and_lowMask addr (k := 14) (by decide)
  have hlt : addr.toNat % 0x4000 < 0x4000 := Nat.mod_lt _ (by decide)
  have hc := mirrorPalette_mirrorTop_toNat (hmask ▸ hlt)
  rw [hmask] at hc
  rw [ppuMirror_eq]
  generalize mirrorPalette (mirrorTop (addr &&& 0x3FFF#16)) = c at hc ⊢
  generalize addr.toNat % 0x4000 = n at hlt hc ⊢
  dsimp only
  by_cases hpalette : 0x3F00 ≤ n
  · rw [if_pos hpalette] at hc
    rw [if_neg (by omega), if_neg (by omega), if_pos hpalette, hc]
  · rw [if_neg hpalette] at hc
    by_cases hpattern : n < 0x2000
    · rw [if_neg (by omega)] at hc
      rw [if_neg (by omega), if_pos hpattern, hc]
    · have hnt : 0x2000 ≤ c.toNat ∧ c.toNat ≤ 0x2FFF ∧ c.toNat % 0x1000 = n % 0x1000 := by split at hc <;> omega
      obtain ⟨hlo, hhi, hoffset⟩ := hnt
      rw [if_pos ⟨hlo, hhi⟩, if_neg hpattern, if_neg hpalette, ntCanonical_toNat m hlo hhi, hoffset]

theorem ppuMirror_range (m : Mirroring) (addr : Word) :
    (ppuMirror m addr).toNat ≤ 0x1FFF ∨ (0x2000 ≤ (ppuMirror m addr).toNat ∧ (ppuMirror m addr).toNat ≤ 0x2FFF) ∨
    (0x3F00 ≤ (ppuMirror m addr).toNat ∧ (ppuMirror m addr).toNat ≤ 0x3F1F) := by
  have hnt : ntOffset m (addr.toNat % 0x4000 % 0x1000) < 0x1000 := ntOffset_lt m (Nat.mod_lt _ (by decide))
  rw [ppuMirror_toNat]
  split
  · omega
  · split <;> omega

theorem ppuMirror_ppuMirror (m : Mirroring) (addr : Word) : ppuMirror m (ppuMirror m addr) = ppuMirror m addr := by
  apply BitVec.eq_of_toNat_eq
  rw [ppuMirror_toNat m (ppuMirror m addr), ppuMirror_toNat m addr]
  have hnt : ntOffset m (addr.toNat % 0x4000 % 0x1000) < 0x1000 := ntOffset_lt m (Nat.mod_lt _ (by decide))
  have hidem := ntOffset_ntOffset m (addr.toNat % 0x4000 % 0x1000)
  generalize ntOffset m (addr.toNat % 0x4000 % 0x1000) = k at hnt hidem
  have hlt : addr.toNat % 0x4000 < 0x4000 := Nat.mod_lt _ (by decide)
  generalize addr.toNat % 0x4000 = n at hlt
  by_cases hpattern : n < 0x2000
  · rw [if_pos hpattern, if_pos (by omega)]
    omega
  · by_cases hpalette : 0x3F00 ≤ n
    · rw [if_neg hpattern, if_pos hpalette, if_neg (by omega), if_pos (by omega)]
      omega
    · have hoffset : (0x2000 + k) % 0x4000 % 0x1000 = k := by omega
      rw [if_neg hpattern, if_neg hpalette, if_neg (by omega), if_neg (by omega), hoffset, hidem]

/-- Settles O11: the value by ranges gives the range of the result, and each range is mapped to itself. -/
theorem ppuMirrorRanges : Obligations.PpuMirrorRanges := by
  unfold Obligations.PpuMirrorRanges
  intro m addr
  refine ⟨?_, ppuMirror_ppuMirror m addr, ppuMirror_range m addr⟩
  rw [ppuMirror_toNat]
  cases m with
  | vertical => rfl
  | horizontal => simp only [ntOffset, Nat.add_assoc]

/-! ### Slots -/

theorem ppuSlot_eq (m : Mirroring) (addr : Word) : ppuSlot m addr =
    if 0x2000 ≤ (ppuMirror m addr).toNat ∧ (ppuMirror m addr).toNat ≤ 0x2FFF then .nt (ntFold m (ppuMirror m addr)).toNat
    else .ppu (ppuMirror m addr).toNat := rfl

theorem ppuSlot_nt_le {m : Mirroring} {addr : Word} {n : Nat} (h : ppuSlot m addr = .nt n) : n ≤ 0x7FF := by
  rw [ppuSlot_eq] at h
  split at h
  · rename_i hnt
    cases h
    exact ntFold_toNat_le m hnt.1 hnt.2
  · cases h

theorem ppuSlot_ppu_range {m : Mirroring} {addr : Word} {n : Nat} (h : ppuSlot m addr = .ppu n) :
    n ≤ 0x1FFF ∨ (0x3F00 ≤ n ∧ n ≤ 0x3F1F) := by
  rw [ppuSlot_eq] at h
  split at h
  · cases h
  · rename_i hnt
    cases h
    exact (ppuMirror_range m addr).imp_right fun hr => hr.resolve_left hnt

/-- Settles O12: the fold by its numeric value, the slots by the range of the mirror. -/
theorem nametableFoldAndSlots : Obligations.NametableFoldAndSlots := by
  unfold Obligations.NametableFoldAndSlots
  refine ⟨fun m a hlo hhi => ⟨?_, ntFold_toNat_le m hlo hhi⟩,
    fun m addr => ⟨ppuSlot_eq m addr, fun _ => ppuSlot_nt_le, fun _ => ppuSlot_ppu_range⟩⟩
  cases m with
  | vertical => exact ntFold_vertical_toNat a
  | horizontal => exact ntFold_horizontal_toNat hlo

end Sys2Proof.Machine
end

section
/-!
PROOFS: the bus (20_memory.md R66 to R75, R81, R82, R85): plain accesses, what every access leaves alone, the transaction log,
and that nothing stops the machine (60_exceptions.md R301, R302).
-/
namespace Sys2Proof.Machine

/-! ### Plain accesses -/

theorem readHooked_iff (p : Word) : readHooked p = true ↔ p.toNat ∈ [0x2000, 0x2001, 0x2002, 0x2004, 0x2007, 0x4016] := by
  simp [readHooked, ← BitVec.toNat_inj, or_assoc]

theorem writeHooked_iff (p : Word) :
    writeHooked p = true ↔ (0x2000 ≤ p.toNat ∧ p.toNat ≤ 0x2007) ∨ p.toNat = 0x4014 ∨ p.toNat = 0x4016 := by
  simp only [writeHooked, Bool.or_eq_true, beq_iff_eq, ← BitVec.toNat_inj, BitVec.toNat_ofNat]
  omega

@[simp] theorem logWrite_cpuByte (p : Word) (s : State) (q : Nat) : (logWrite p s).cpuByte q = s.cpuByte q := rfl

/-- Settles O13: a plain read and a plain write are the store's own access and the log entry. -/
theorem defaultStore : Obligations.DefaultStore := by
  unfold Obligations.DefaultStore
  intro a v s
  refine ⟨fun hp => ?_, fun hppu hdma hpad => ?_⟩
  · rw [← readHooked_iff, Bool.not_eq_true] at hp
    exact cpuRead_plain s hp
  · have hp : writeHooked (cpuMirror a) = false := by
      rw [← Bool.not_eq_true, writeHooked_iff]
      exact not_or.2 ⟨hppu, not_or.2 ⟨hdma, hpad⟩⟩
    dsimp only
    rw [cpuWrite_plain v s hp]
    exact ⟨putCpuByte_cpuByte_same _ v _, fun q hq => putCpuByte_cpuByte_other v _ hq, ⟨fun _ => rfl, fun _ => rfl, fun _ => rfl⟩,
      rfl, ⟨rfl, rfl, rfl, rfl, rfl, rfl⟩, rfl⟩

/-- Settles O16: both accesses are plain, so the read is that of the byte array after the write. -/
theorem readAfterWrite : Obligations.ReadAfterWrite := by
  unfold Obligations.ReadAfterWrite
  intro a b v s ha hb
  rw [cpuWrite_plain v s ha, cpuRead_plain _ hb, cpuRead_plain s hb]
  dsimp only
  split
  · rename_i heq
    rw [heq, putCpuByte_cpuByte_same]
  · rename_i hne
    rw [putCpuByte_cpuByte_other v _ (fun h => hne (BitVec.eq_of_toNat_eq h)), logWrite_cpuByte]

/-! ### Frames -/

/-- A claimed write stores no byte of CPU memory (R69). -/
theorem cpuWrite_cpuByte_of_hooked {a : Word} (v : Byte) (s : State) (hp : writeHooked (cpuMirror a) = true) (q : Nat) :
    (cpuWrite a v s).cpuByte q = s.cpuByte q := by
  obtain ⟨-, h⟩ | ⟨-, h⟩ | ⟨-, h⟩ | ⟨-, h⟩ | ⟨-, h⟩ | ⟨-, h⟩ | ⟨-, h⟩ | ⟨-, h⟩ | ⟨-, h⟩ | ⟨-, h⟩ | ⟨hplain, h⟩ :=
    cpuWrite_cases a v s
  all_goals rw [h]
  · rfl
  · rfl
  · rfl
  · rfl
  · rfl
  · rw [writeScroll_eq_setPpu]; rfl
  · rw [writeAddr_eq_setPpu]; rfl
  · exact ppuWrite_cpuByte _ _ _ _
  · exact oamDmaFrom_cpuByte _ _ _ _ _
  · rw [writePad_eq]; rfl
  · rw [hplain] at hp; cases hp

theorem readData_pad (s : State) : (readData s).2.pad = s.pad := by simp only [readData]; split <;> rfl

theorem readData_host (s : State) : (readData s).2.host = s.host := by simp only [readData]; split <;> rfl

theorem cpuRead_readFrame (a : Word) (s : State) : ReadFrame s (cpuRead a s).2 :=
  ⟨⟨cpuRead_cpuByte a s, cpuRead_ppuByte a s, cpuRead_ntByte a s, cpuRead_oamByte a s⟩, cpuRead_ppu a s,
    by rw [cpuRead_bus], cpuRead_driver a s, cpuRead_diag a s, cpuRead_params a s, (cpuRead_host a s).1⟩

/-- Only a read of STATUS or DATA changes the PPU (R81). -/
theorem cpuRead_ppu_eq {a : Word} (s : State) (hstatus : cpuMirror a ≠ 0x2002#16) (hdata : cpuMirror a ≠ 0x2007#16) :
    (cpuRead a s).2.ppu = s.ppu := by
  obtain ⟨-, h⟩ | ⟨-, h⟩ | ⟨hp, -⟩ | ⟨-, h⟩ | ⟨hp, -⟩ | ⟨-, h⟩ | ⟨-, h⟩ := cpuRead_cases a s
  · rw [h]; rfl
  · rw [h]; rfl
  · exact absurd hp hstatus
  · rw [h]; rfl
  · exact absurd hp hdata
  · rw [h, readPad_eq]; rfl
  · rw [h]; rfl

/-- Only a read of the controller port changes the port or draws from the host (R81). -/
theorem cpuRead_pad_host_eq {a : Word} (s : State) (hpad : cpuMirror a ≠ 0x4016#16) :
    (cpuRead a s).2.pad = s.pad ∧ (cpuRead a s).2.host = s.host := by
  obtain ⟨-, h⟩ | ⟨-, h⟩ | ⟨-, h⟩ | ⟨-, h⟩ | ⟨-, h⟩ | ⟨hp, -⟩ | ⟨-, h⟩ := cpuRead_cases a s
  · rw [h]; exact ⟨rfl, rfl⟩
  · rw [h]; exact ⟨rfl, rfl⟩
  · rw [h]; exact ⟨rfl, rfl⟩
  · rw [h]; exact ⟨rfl, rfl⟩
  · rw [h]; exact ⟨readData_pad _, readData_host _⟩
  · exact absurd hp hpad
  · rw [h]; exact ⟨rfl, rfl⟩

/-- Settles O14: a claimed write is one of the devices' own writes, a read at most one of their reads. -/
theorem busFrames : Obligations.BusFrames := by
  unfold Obligations.BusFrames
  refine ⟨fun a v s hp => ?_, fun a s => ?_⟩
  · rw [← writeHooked_iff] at hp
    exact ⟨cpuWrite_cpuByte_of_hooked v s hp, cpuWrite_cpu a v s, cpuWrite_driver a v s, cpuWrite_diag a v s, cpuWrite_params a v s⟩
  · exact ⟨cpuRead_readFrame a s, cpuRead_cpu a s, cpuRead_ppu_eq s, cpuRead_pad_host_eq s⟩

/-! ### The transaction log -/

/-- A write records itself, and only OAM-DMA reads (R74). -/
theorem cpuWrite_bus_of_ne_dma {a : Word} (v : Byte) (s : State) (hdma : cpuMirror a ≠ 0x4014#16) :
    (cpuWrite a v s).bus = { s.bus with lastWrite := some (cpuMirror a) } := by
  obtain ⟨-, h⟩ | ⟨-, h⟩ | ⟨-, h⟩ | ⟨-, h⟩ | ⟨-, h⟩ | ⟨-, h⟩ | ⟨-, h⟩ | ⟨-, h⟩ | ⟨hp, h⟩ | ⟨-, h⟩ | ⟨-, h⟩ :=
    cpuWrite_cases a v s
  all_goals rw [h]
  · rfl
  · rfl
  · rfl
  · rfl
  · rfl
  · rw [writeScroll_eq_setPpu]; rfl
  · rw [writeAddr_eq_setPpu]; rfl
  · exact ppuWrite_bus _ _ _
  · exact absurd hp hdma
  · rw [writePad_eq]; rfl
  · rfl

theorem cpuWrite_dma {a : Word} (v : Byte) (s : State) (hdma : cpuMirror a = 0x4014#16) :
    cpuWrite a v s = oamDma v (logWrite 0x4014#16 s) := by
  simp [cpuWrite, writeHooks, askWriteHooks, ppuTryWrite, hdma]

/-- A DMA that copies at least one byte leaves its last read in the log (60_exceptions.md R352). -/
theorem oamDmaFrom_bus (page : Byte) (n i : Nat) (s : State) : (oamDmaFrom page (n + 1) i s).bus =
    { s.bus with lastRead := some (cpuMirror (wordOf page 0#8 + BitVec.ofNat 16 (i + n))) } := by
  induction n generalizing i s with
  | zero => exact cpuRead_bus _ s
  | succ n ih =>
    rw [oamDmaFrom, ih, putOamByte_eq, State.setMem_bus, cpuRead_bus, Nat.add_right_comm i 1 n, Nat.add_assoc i n 1]

theorem wordOf_page_add (page : Byte) (i : Nat) : wordOf page 0#8 + BitVec.ofNat 16 i = BitVec.ofNat 16 (256 * page.toNat + i) := by
  apply BitVec.eq_of_toNat_eq
  simp only [BitVec.toNat_add, wordOf_toNat, BitVec.toNat_ofNat]
  omega

theorem oamDma_bus (page : Byte) (s : State) : (oamDma page s).bus =
    { s.bus with lastRead := some (cpuMirror (BitVec.ofNat 16 (256 * page.toNat + 255))) } := by
  rw [← wordOf_page_add]
  exact oamDmaFrom_bus page 255 0 s

/-- Settles O15: a write other than to the DMA port logs itself alone; a DMA logs its last read besides. -/
theorem transactionLog : Obligations.TransactionLog := by
  unfold Obligations.TransactionLog
  intro a v s
  refine ⟨cpuRead_bus a s, ?_, fun hdma => by rw [cpuWrite_bus_of_ne_dma v s hdma],
    fun hdma => by rw [cpuWrite_dma v s hdma, oamDma_bus], ppuWrite_bus a v s⟩
  by_cases hdma : cpuMirror a = 0x4014#16
  · rw [cpuWrite_dma v s hdma, oamDma_bus, hdma]
    rfl
  · rw [cpuWrite_bus_of_ne_dma v s hdma]

/-! ### Totality -/

/-- Settles O54: every instruction runs its shape, and each way a step can go answers a next state. -/
theorem nothingStops : Obligations.NothingStops := by
  unfold Obligations.NothingStops
  refine ⟨fun i s => ⟨_, exec_shape i s⟩, fun s => ?_⟩
  obtain ⟨t, -, hheld⟩ | ⟨_, -, ⟨_, _, -, hran⟩ | ⟨_, _, -, hreported⟩⟩ := step_cases s
  · exact ⟨t, hheld⟩
  · exact ⟨_, hran⟩
  · exact ⟨_, hreported⟩

end Sys2Proof.Machine
end

section
/-!
PROOFS: the decoder and the encoder (30_encoding.md R100, R101, R125 to R128), through one relation between a row of the opcode
table, the operand bytes it reads and the instruction it makes of them.
-/
namespace Sys2Proof
open Machine

/-! ### What a form reads -/

/-- The operand bytes a form reads, low byte first, and the instruction it makes of them (R101). -/
inductive Form.Reads : Form → List Byte → Instr → Prop
  | bare (i : Instr) : Reads (.bare i) [] i
  | byte (mk : Byte → Instr) (b1 : Byte) : Reads (.byte mk) [b1] (mk b1)
  | word (mk : Word → Instr) (w : Word) : Reads (.word mk) [lowByte w, highByte w] (mk w)

/-- The two operand bytes of a length-3 row, in the order in which they stand. -/
theorem Form.Reads.wordBytes (mk : Word → Instr) (b1 b2 : Byte) : Reads (.word mk) [b1, b2] (mk (wordOf b2 b1)) := by
  simpa using Reads.word mk (wordOf b2 b1)

/-- When decoding succeeds, and on what: an opcode of the table and the operand bytes of its row come first (R100, R101). -/
theorem decode_ok_iff {bytes rest : List Byte} {i : Instr} : decode bytes = .ok i rest ↔
    ∃ op f operands, decodeOpcode op = some f ∧ f.Reads operands i ∧ bytes = op :: operands ++ rest := by
  constructor
  · intro h
    unfold decode at h
    split at h
    · cases h
    · rename_i op tail
      split at h
      · cases h
      · rename_i hop
        cases h
        exact ⟨op, _, [], hop, .bare i, rfl⟩
      · rename_i b1 _ hop
        cases h
        exact ⟨op, _, [b1], hop, .byte _ b1, rfl⟩
      · rename_i b1 b2 _ hop
        cases h
        exact ⟨op, _, [b1, b2], hop, .wordBytes _ b1 b2, rfl⟩
      · cases h
  · rintro ⟨op, f, operands, hop, hreads, rfl⟩
    cases hreads with
    | bare i => simp [decode, hop]
    | byte mk b1 => simp [decode, hop]
    | word mk w => simp [decode, hop]

/-! ### The opcode table -/

theorem mem_of_findRow {rows : List (Byte × Form)} {op : Byte} {f : Form} (h : findRow rows op = some f) : (op, f) ∈ rows := by
  induction rows with
  | nil => cases h
  | cons row rows ih =>
    obtain ⟨k, g⟩ := row
    simp only [findRow] at h
    split at h
    · rename_i hk
      cases h
      exact hk ▸ List.mem_cons_self
    · exact List.mem_cons_of_mem _ (ih h)

/-- A row of the map is a part of the opcode table (R125, R126). -/
theorem mem_opcodeTable_of_mem_opcodeRow {n : Nat} {row : Byte × Form} (h : row ∈ opcodeRow n) : row ∈ opcodeTable := by
  unfold opcodeRow at h
  simp only [opcodeTable, List.mem_append]
  split at h <;> simp only [h, true_or, or_true]

theorem mem_opcodeTable_of_decodeOpcode {op : Byte} {f : Form} (h : decodeOpcode op = some f) : (op, f) ∈ opcodeTable :=
  mem_opcodeTable_of_mem_opcodeRow (mem_of_findRow h)

/-- The decoder's table and the encoder agree, row by row: what a row reads encodes as its opcode and the operand bytes (R126). -/
theorem encode_of_mem_opcodeTable :
    ∀ row ∈ opcodeTable, ∀ operands i, row.2.Reads operands i → encode i = row.1 :: operands := by
  simp only [opcodeTable, opcodeRow0, opcodeRow1, opcodeRow2, opcodeRow3, opcodeRow4, opcodeRow5, opcodeRow6, opcodeRow7, opcodeRow8,
    opcodeRow9, opcodeRowA, opcodeRowB, opcodeRowC, opcodeRowD, opcodeRowE, opcodeRowF, List.cons_append, List.nil_append,
    List.forall_mem_cons,
    List.not_mem_nil, IsEmpty.forall_iff, implies_true, and_true]
  repeat' apply And.intro
  all_goals
    rintro _ _ ⟨⟩
    rfl

theorem encode_of_reads {op : Byte} {f : Form} {operands : List Byte} {i : Instr} (hop : decodeOpcode op = some f)
    (hreads : f.Reads operands i) : encode i = op :: operands :=
  encode_of_mem_opcodeTable _ (mem_opcodeTable_of_decodeOpcode hop) _ _ hreads

/-! ### The round trip -/

/-- Every instruction is read by a row of the table, from the bytes that encode it (R126). -/
theorem exists_row_reads (i : Instr) :
    ∃ op f operands, decodeOpcode op = some f ∧ f.Reads operands i ∧ encode i = op :: operands := by
  cases i <;> exact ⟨_, _, _, rfl, by constructor, rfl⟩

/-- Settles O1: the row that reads an instruction determines the bytes both ways. -/
theorem decodeEncodeRoundTrip : Obligations.DecodeEncodeRoundTrip := by
  unfold Obligations.DecodeEncodeRoundTrip
  intro i bytes rest
  rw [decode_ok_iff]
  constructor
  · rintro ⟨op, f, operands, hop, hreads, rfl⟩
    rw [encode_of_reads hop hreads]
  · rintro rfl
    obtain ⟨op, f, operands, hop, hreads, henc⟩ := exists_row_reads i
    exact ⟨op, f, operands, hop, hreads, by rw [henc]⟩

/-! ### Illegal bytes and samples -/

/-- R127's list is exactly the bytes without a table entry: a check of the 256 bytes. -/
theorem decodeOpcode_eq_none_iff : ∀ op : Byte, decodeOpcode op = none ↔ op ∈ illegalOpcodes := by decide

/-- Every row of the table is found under its own opcode (R125). -/
theorem decodeOpcode_isSome_of_mem : ∀ op ∈ opcodeTable.map Prod.fst, (decodeOpcode op).isSome = true := by decide

theorem decodeOpcode_isSome_iff (op : Byte) : (decodeOpcode op).isSome = true ↔ op ∈ opcodeTable.map Prod.fst := by
  refine ⟨fun h => ?_, decodeOpcode_isSome_of_mem op⟩
  obtain ⟨f, hf⟩ := Option.isSome_iff_exists.1 h
  exact List.mem_map_of_mem (f := Prod.fst) (mem_opcodeTable_of_decodeOpcode hf)

/-- Settles O2: the table's rows are found, and what is not found is on the list. -/
theorem opcodeOrIllegalByte : Obligations.OpcodeOrIllegalByte := by
  unfold Obligations.OpcodeOrIllegalByte
  exact ⟨rfl, rfl, by decide, fun op => ⟨decodeOpcode_isSome_iff op, decodeOpcode_eq_none_iff op⟩⟩

/-- Settles O3: the decoder run on the eight words. -/
theorem sampleWordsDecode : Obligations.SampleWordsDecode := by
  unfold Obligations.SampleWordsDecode
  decide

end Sys2Proof
end

section
/-!
PROOFS: the fetch and the step (30_encoding.md R102, R103, 70_reset_and_hazards.md R400): the bytes a fetch reads are the bytes
`readBytes` reads, as many as the instruction has.
-/
namespace Sys2Proof.Machine

theorem readBytes_length (n : Nat) (pc : Word) (s : State) : (readBytes n pc s).1.length = n := by
  induction n generalizing pc s with
  | zero => rfl
  | succ n ih => exact congrArg (· + 1) (ih _ _)

/-- The fetch finds the instruction that the bytes at PC decode to, and leaves the state that reading them leaves (R103). -/
theorem fetch_eq_of_decode {n : Nat} {s t : State} {bytes : List Byte} {i : Instr} (hread : readBytes n s.cpu.pc s = (bytes, t))
    (hdecode : decode bytes = .ok i []) : fetch s = (.instr i, t) := by
  obtain ⟨op, f, operands, hop, hreads, rfl⟩ := decode_ok_iff.1 hdecode
  have hlength := readBytes_length n s.cpu.pc s
  rw [hread] at hlength
  subst hlength
  cases hreads with
  | bare i =>
    obtain ⟨rfl, rfl⟩ : (cpuRead s.cpu.pc s).1 = op ∧ (cpuRead s.cpu.pc s).2 = t := by simpa [readBytes] using hread
    simp [fetch, hop]
  | byte mk b1 =>
    obtain ⟨rfl, rfl, rfl⟩ : (cpuRead s.cpu.pc s).1 = op ∧ (cpuRead (s.cpu.pc + 1#16) (cpuRead s.cpu.pc s).2).1 = b1 ∧
        (cpuRead (s.cpu.pc + 1#16) (cpuRead s.cpu.pc s).2).2 = t := by
      simpa [readBytes, and_assoc] using hread
    simp [fetch, hop]
  | word mk w =>
    have hnext : s.cpu.pc + 1#16 + 1#16 = s.cpu.pc + 2#16 := by rw [BitVec.add_assoc]; rfl
    obtain ⟨rfl, hlow, hhigh, rfl⟩ : (cpuRead s.cpu.pc s).1 = op ∧
        (cpuRead (s.cpu.pc + 1#16) (cpuRead s.cpu.pc s).2).1 = lowByte w ∧
        (cpuRead (s.cpu.pc + 2#16) (cpuRead (s.cpu.pc + 1#16) (cpuRead s.cpu.pc s).2).2).1 = highByte w ∧
        (cpuRead (s.cpu.pc + 2#16) (cpuRead (s.cpu.pc + 1#16) (cpuRead s.cpu.pc s).2).2).2 = t := by
      simpa [readBytes, and_assoc, hnext] using hread
    simp [fetch, hop, hlow, hhigh]

/-- Settles O4: the fetch is the read of the decoded bytes, and the step goes on from it. -/
theorem stepRunsDecodedInstruction : Obligations.StepRunsDecodedInstruction := by
  unfold Obligations.StepRunsDecodedInstruction
  intro s t u n bytes i hrun hread hdecode
  have hstep : step s = afterExec (exec i u) := by simp [step, hrun, cpuStep, fetch_eq_of_decode hread hdecode]
  exact ⟨hstep, fun v hv => by rw [hstep, hv]; rfl⟩

end Sys2Proof.Machine
end

section
/-!
PROOFS: effective addresses (30_encoding.md R112 to R124): indexing by its numeric value, and pointers in page zero.
-/
namespace Sys2Proof.Machine

/-! ### Indexing and pages -/

@[simp] theorem zeroPage_toNat (d : Byte) : (zeroPage d).toNat = d.toNat := by
  rw [zeroPage, BitVec.toNat_setWidth, Nat.mod_eq_of_lt (by omega)]

/-- A page is told by the high byte (R123). -/
theorem pageCrossed_iff (a b : Word) : pageCrossed a b = true ↔ a.toNat / 256 ≠ b.toNat / 256 := by
  have hpage : ∀ c : Word, (c &&& 0xFF00#16).toNat = c.toNat / 256 * 256 := fun c => by
    rw [show (0xFF00#16 : Word) = BitVec.allOnes 16 <<< 8 from rfl, ← BitVec.shiftLeft_ushiftRight, BitVec.toNat_shiftLeft,
      BitVec.toNat_ushiftRight, Nat.shiftLeft_eq, Nat.shiftRight_eq_div_pow]
    omega
  rw [pageCrossed, bne_iff_ne, ne_eq, ← BitVec.toNat_inj, hpage, hpage]
  omega

theorem indexed_addr_toNat (base : Word) (i : Byte) : (indexed base i).addr.toNat = (base.toNat + i.toNat) % 0x10000 := by
  simp [indexed]

theorem indexed_crossed_iff (base : Word) (i : Byte) :
    (indexed base i).crossed = true ↔ base.toNat / 256 ≠ (base.toNat + i.toNat) % 0x10000 / 256 := by
  rw [← indexed_addr_toNat]
  exact pageCrossed_iff _ _

/-! ### Pointers in page zero -/

/-- Page zero is RAM and no hook sees it, so a read of it is the byte and the log entry (R113). -/
theorem cpuRead_zeroPage (d : Byte) (s : State) : cpuRead (zeroPage d) s = (s.cpuByte d.toNat, logRead (zeroPage d) s) := by
  have hmirror : cpuMirror (zeroPage d) = zeroPage d := (cpuMirror_eq_self_iff _).2 (.inl (by rw [zeroPage_toNat]; omega))
  have hplain : readHooked (zeroPage d) = false := by
    rw [← Bool.not_eq_true, readHooked_iff, zeroPage_toNat]
    have := d.isLt
    simp only [List.mem_cons, List.not_mem_nil, or_false]
    omega
  rw [cpuRead_plain s (by rw [hmirror]; exact hplain), hmirror, zeroPage_toNat]

/-- A pointer in page zero: both bytes lie there, and the second wraps to its start (R120, R121). -/
theorem cpuReadPair_zeroPage (p : Byte) (s : State) : cpuReadPair (zeroPage p) (zeroPage (p + 1#8)) s =
    (wordOf (s.cpuByte ((p.toNat + 1) % 256)) (s.cpuByte p.toNat), logRead (BitVec.ofNat 16 ((p.toNat + 1) % 256)) s) := by
  have hnext : (p + 1#8).toNat = (p.toNat + 1) % 256 := BitVec.toNat_add p 1#8
  have haddr : zeroPage (p + 1#8) = BitVec.ofNat 16 ((p.toNat + 1) % 256) := by
    rw [← hnext, ← zeroPage_toNat, BitVec.ofNat_toNat, BitVec.setWidth_eq]
  simp only [cpuReadPair, cpuRead_zeroPage]
  rw [hnext, haddr]
  rfl

theorem resolve_indX (d : Byte) (s : State) :
    let p := (d.toNat + s.cpu.x.toNat) % 256
    resolve (.indX d) s = ({ addr := wordOf (s.cpuByte ((p + 1) % 256)) (s.cpuByte p), crossed := false },
      logRead (BitVec.ofNat 16 ((p + 1) % 256)) s) := by
  dsimp only [resolve]
  rw [cpuReadPair_zeroPage, BitVec.toNat_add]

theorem resolve_indY (d : Byte) (s : State) :
    resolve (.indY d) s = (indexed (wordOf (s.cpuByte ((d.toNat + 1) % 256)) (s.cpuByte d.toNat)) s.cpu.y,
      logRead (BitVec.ofNat 16 ((d.toNat + 1) % 256)) s) := by
  dsimp only [resolve]
  rw [cpuReadPair_zeroPage]

/-- Settles O27: the direct forms by the value of their index sum, the indirect ones by the pointer read in page zero. -/
theorem effectiveAddresses : Obligations.EffectiveAddresses := by
  unfold Obligations.EffectiveAddresses
  refine ⟨fun s d w => ?_, fun s d => ?_, fun m s => rfl⟩
  · exact ⟨rfl, by simp [resolve], by simp [resolve], zeroPage_toNat d, (zeroPage_toNat _).trans (BitVec.toNat_add _ _),
      (zeroPage_toNat _).trans (BitVec.toNat_add _ _), rfl, indexed_addr_toNat _ _, indexed_addr_toNat _ _,
      indexed_crossed_iff _ _, indexed_crossed_iff _ _⟩
  · simp only [resolve_indX, resolve_indY, wordOf_toNat, indexed_addr_toNat, indexed_crossed_iff, true_and]
    exact ⟨rfl, rfl⟩

end Sys2Proof.Machine
end

section
/-!
PROOFS: loads, stores and register transfers (41_load_store_transfer.md R140 to R151). One theorem per access class turns a row of
`Shape.of` into the statement about the instruction; each obligation is then one line per shape of its rows.
-/
namespace Sys2Proof.Machine

/-! ### Frames of reads -/

theorem SameBytes.of_mem {s t : State} (h : t.mem = s.mem) : SameBytes s t := by
  simp [SameBytes, SamePpuSide, State.cpuByte, State.ppuByte, State.ntByte, State.oamByte, h]

theorem SameBytes.trans {s t u : State} (h : SameBytes s t) (k : SameBytes t u) : SameBytes s u := by
  obtain ⟨hcpu, hppu, hnt, hoam⟩ := h
  obtain ⟨kcpu, kppu, knt, koam⟩ := k
  exact ⟨fun p => (kcpu p).trans (hcpu p), fun c => (kppu c).trans (hppu c), fun n => (knt n).trans (hnt n),
    fun i => (koam i).trans (hoam i)⟩

theorem ReadFrame.refl (s : State) : ReadFrame s s := ⟨.of_mem rfl, rfl, rfl, rfl, rfl, rfl, rfl⟩

theorem ReadFrame.trans {s t u : State} (h : ReadFrame s t) (k : ReadFrame t u) : ReadFrame s u := by
  obtain ⟨hbytes, hppu, hlog, hdriver, hdiag, hparams, hhost⟩ := h
  obtain ⟨kbytes, kppu, klog, kdriver, kdiag, kparams, khost⟩ := k
  exact ⟨hbytes.trans kbytes, by rw [kppu, hppu], klog.trans hlog, kdriver.trans hdriver, kdiag.trans hdiag,
    kparams.trans hparams, by rw [khost, hhost]⟩

/-- Registers are no part of the frame. -/
theorem ReadFrame.setCpu {s t : State} (h : ReadFrame s t) (c : Cpu) : ReadFrame s (t.setCpu c) := h

theorem cpuReadPair_readFrame (lo hi : Word) (s : State) : ReadFrame s (cpuReadPair lo hi s).2 :=
  (cpuRead_readFrame lo s).trans (cpuRead_readFrame hi _)

/-- Resolving a mode makes no access, or reads a pointer (30_encoding.md R112 to R121). -/
theorem resolve_readFrame (m : Mode) (s : State) : ReadFrame s (resolve m s).2 := by
  cases m with
  | ind w => exact cpuReadPair_readFrame _ _ s
  | indX d => exact cpuReadPair_readFrame _ _ s
  | indY d => exact cpuReadPair_readFrame _ _ s
  | _ => exact .refl s

theorem readOperand_readFrame (o : Operand) (s : State) : ReadFrame s (readOperand o s).2 := by
  cases o with
  | imm v => exact .refl s
  | mem m => exact (resolve_readFrame m s).trans (cpuRead_readFrame _ _)

/-! ### Access classes -/

/-- The extra cycle of 70_reset_and_hazards.md R404 as one condition. -/
theorem crossExtra_eq (penalty crossed : Bool) (s : State) : crossExtra penalty crossed s =
    if s.params.extraCycles = .nmos ∧ penalty = true ∧ crossed = true then 1 else 0 := by
  unfold crossExtra
  cases s.params.extraCycles <;> simp

/-- Register changes of access class NONE leave the cycle count to retiring. -/
theorem cycles_of_shape_register {i : Instr} {f : Cpu → Cpu} {len base : Nat} (hshape : Shape.of i = .register f len base)
    (c : Cpu) : (f c).cycles = c.cycles := by
  have hgood := shape_good i
  rw [hshape] at hgood
  exact (hgood.1 c).1

/-- Register changes of access class R leave the cycle count to retiring. -/
theorem cycles_of_shape_read {i : Instr} {f : Byte → Cpu → Cpu} {o : Operand} {len base : Nat} {penalty : Bool}
    (hshape : Shape.of i = .read f o len base penalty) (m : Byte) (c : Cpu) : (f m c).cycles = c.cycles := by
  have hgood := shape_good i
  rw [hshape] at hgood
  exact (hgood.1 m c).1

/-- Access class NONE: `post` is left to show of the register change, whatever retiring writes to PC and the cycle count. -/
theorem registerInstr_of_shape {i : Instr} {op : Byte} {len base : Nat} {f : Cpu → Cpu} {post : Cpu → Cpu → Prop}
    (henc : EncodedAs i op len) (hshape : Shape.of i = .register f len base)
    (hpost : ∀ c pc n, post c { f c with pc := pc, cycles := n }) : RegisterInstr i op len base post := by
  refine ⟨henc, fun s => ⟨_, exec_shape i s, ?_⟩⟩
  rw [hshape, Shape.run, registerClass_eq, cycles_of_shape_register hshape]
  exact ⟨rfl, .of_mem rfl, rfl, rfl, hpost _ _ _⟩

/-- Access class R: `post` is left to show of the register change, for any operand value. -/
theorem readInstr_of_shape {i : Instr} {op : Byte} {o : Operand} {len base : Nat} {penalty : Bool} {f : Byte → Cpu → Cpu}
    {post : Byte → Cpu → Cpu → Prop} (henc : EncodedAs i op len) (hshape : Shape.of i = .read f o len base penalty)
    (hpost : ∀ m c pc n, post m c { f m c with pc := pc, cycles := n }) : ReadInstr i op o len base penalty post := by
  refine ⟨henc, fun s => ⟨_, exec_shape i s, ?_⟩⟩
  rw [hshape, Shape.run, readClass_eq, cycles_of_shape_read hshape, crossExtra_eq]
  exact ⟨rfl, (readOperand_readFrame o s).setCpu _, rfl, (Nat.add_assoc _ _ _).symm, hpost _ _ _ _⟩

/-! ### Stores -/

/-- All modes but IND find their address and change at most the read log on the way: INDX and INDY read page zero. -/
theorem resolve_state_eq_setBus {m : Mode} (hm : ∀ w, m ≠ .ind w) (s : State) :
    (resolve m s).2 = s.setBus { s.bus with lastRead := (resolve m s).2.bus.lastRead } := by
  cases m with
  | ind w => exact absurd rfl (hm w)
  | indX d => rw [resolve_indX]; rfl
  | indY d => rw [resolve_indY]; rfl
  | _ => rfl

/-- A bus write changes at most the byte it addresses, and not that one where a hook claims it (20_memory.md R69). -/
theorem cpuWrite_cpuByte_other {a : Word} (v : Byte) (s : State) {q : Nat}
    (hq : q ≠ (cpuMirror a).toNat ∨ writeHooked (cpuMirror a) = true) : (cpuWrite a v s).cpuByte q = s.cpuByte q := by
  by_cases hp : writeHooked (cpuMirror a) = true
  · exact cpuWrite_cpuByte_of_hooked v s hp q
  · rw [cpuWrite_plain v s (Bool.eq_false_iff.2 hp), putCpuByte_cpuByte_other v _ (hq.resolve_right hp), logWrite_cpuByte]

theorem cpuWrite_lastWrite (a : Word) (v : Byte) (s : State) : (cpuWrite a v s).bus.lastWrite = some (cpuMirror a) := by
  obtain ⟨-, hlast, -⟩ := transactionLog a v s
  exact hlast

/-- Access class W, for the modes a store can have (R143 to R145). -/
theorem storeInstr_of_shape {i : Instr} {op : Byte} {value : Cpu → Byte} {m : Mode} {len base : Nat} (hm : ∀ w, m ≠ .ind w)
    (henc : EncodedAs i op len) (hshape : Shape.of i = .write value m len base) : StoreInstr i op value m len base := by
  refine ⟨henc, fun s => ⟨_, exec_shape i s, ?_⟩⟩
  have hresolve := resolve_state_eq_setBus hm s
  rw [hshape, Shape.run, writeClass_eq]
  refine ⟨rfl, by simp, by simp, by simp, cpuWrite_lastWrite _ _ _, fun q hq => ?_, fun hplain => ?_, fun _ => rfl⟩
  · rw [State.setCpu_cpuByte, cpuWrite_cpuByte_other _ _ hq, hresolve, State.setBus_cpuByte]
  · rw [cpuWrite_plain _ _ hplain]
    refine ⟨putCpuByte_cpuByte_same _ _ _, ?_, ?_, rfl⟩
    · rw [hresolve]
      exact ⟨fun _ => rfl, fun _ => rfl, fun _ => rfl⟩
    · rw [hresolve]
      exact ⟨rfl, rfl, rfl, rfl, rfl, rfl⟩

/-! ### The registers a load or a transfer writes -/

theorem onlyNZ_setNZ (r p : Byte) : OnlyNZ r p (setNZ r p) := by
  obtain ⟨h5, h4⟩ := getLsbD_five_four_setNZ r p
  exact ⟨flagN_setNZ r p, flagV_setNZ r p, flagD_setNZ r p, flagI_setNZ r p, flagZ_setNZ r p, flagC_setNZ r p, h5, h4⟩

theorem loadA_writes (m : Byte) (c : Cpu) (pc : Word) (n : Nat) :
    OnlyA m c { loadA m c with pc := pc, cycles := n } ∧ OnlyNZ m c.p (loadA m c).p := ⟨rfl, onlyNZ_setNZ m c.p⟩

theorem loadX_writes (m : Byte) (c : Cpu) (pc : Word) (n : Nat) :
    OnlyX m c { loadX m c with pc := pc, cycles := n } ∧ OnlyNZ m c.p (loadX m c).p := ⟨rfl, onlyNZ_setNZ m c.p⟩

theorem loadY_writes (m : Byte) (c : Cpu) (pc : Word) (n : Nat) :
    OnlyY m c { loadY m c with pc := pc, cycles := n } ∧ OnlyNZ m c.p (loadY m c).p := ⟨rfl, onlyNZ_setNZ m c.p⟩

/-! ### The obligations -/

/-- Settles O28: every load is of class R, and loads its operand into one register. -/
theorem loadInstructions : Obligations.LoadInstructions := by
  unfold Obligations.LoadInstructions
  refine ⟨fun d w => ?_, fun d w => ?_⟩
  · refine ⟨?_, ?_, ?_, ?_, ?_, ?_, ?_, ?_⟩ <;> exact readInstr_of_shape ⟨rfl, rfl⟩ rfl loadA_writes
  · refine ⟨?_, ?_, ?_, ?_, ?_, ?_, ?_, ?_, ?_, ?_⟩
    iterate 5 exact readInstr_of_shape ⟨rfl, rfl⟩ rfl loadX_writes
    iterate 5 exact readInstr_of_shape ⟨rfl, rfl⟩ rfl loadY_writes

/-- Settles O29: every store is of class W, and none has the mode IND. -/
theorem storesWriteOneByte : Obligations.StoresWriteOneByte := by
  unfold Obligations.StoresWriteOneByte
  intro d w
  refine ⟨?_, ?_, ?_, ?_, ?_, ?_, ?_, ?_, ?_, ?_, ?_, ?_, ?_⟩ <;>
    exact storeInstr_of_shape (fun _ => Mode.noConfusion) ⟨rfl, rfl⟩ rfl

/-- Settles O30: the five transfers into A, X and Y are the loads' register changes of another register; TXS writes SP alone. -/
theorem transfersCopyARegister : Obligations.TransfersCopyARegister := by
  unfold Obligations.TransfersCopyARegister
  exact ⟨registerInstr_of_shape ⟨rfl, rfl⟩ rfl fun c => loadX_writes c.a c,
    registerInstr_of_shape ⟨rfl, rfl⟩ rfl fun c => loadY_writes c.a c,
    registerInstr_of_shape ⟨rfl, rfl⟩ rfl fun c => loadA_writes c.x c,
    registerInstr_of_shape ⟨rfl, rfl⟩ rfl fun c => loadA_writes c.y c,
    registerInstr_of_shape ⟨rfl, rfl⟩ rfl fun c => loadX_writes c.sp c,
    registerInstr_of_shape ⟨rfl, rfl⟩ rfl fun _ _ _ => rfl⟩

end Sys2Proof.Machine
end

section
/-!
PROOFS: arithmetic and logic (42_arithmetic_logic.md R160 to R177). What each flag computation writes of P, subtraction as addition
of the complement, V as signed overflow, and the access class RMW; each obligation is then one line per shape of its rows.
-/
namespace Sys2Proof.Machine

/-! ### What a flag computation writes of P -/

theorem statusIs_setNZ_setV_setC (r : Byte) (v b : Bool) (p : Byte) :
    StatusIs p (setNZ r (setV v (setC b p))) (r.getLsbD 7) v (flagD p) (flagI p) (r == 0#8) b := by
  simp [StatusIs]

theorem onlyNZC_setNZ_setC (r : Byte) (b : Bool) (p : Byte) : OnlyNZC r b p (setNZ r (setC b p)) := by
  simp [OnlyNZC, StatusIs]

theorem statusIs_bitCore (a m p : Byte) :
    StatusIs p (bitCore a m p) (m.getLsbD 7) (m.getLsbD 6) (flagD p) (flagI p) (a &&& m == 0#8) (flagC p) := by
  simp [StatusIs, bitCore]

/-! ### The adder -/

/-- SBC is ADC of the complement: the two totals differ by 256 (R162). -/
theorem subCore_eq_addCore_not (a m p : Byte) (cin : Bool) : subCore a m cin p = addCore a (~~~m) cin p := by
  have htotal : ((a.toNat + (~~~m).toNat + cin.toNat : Nat) : Int) = (a.toNat : Int) - m.toNat - (1 - cin.toNat) + 256 := by
    rw [BitVec.toNat_not]
    omega
  have hresult : BitVec.ofInt 8 ((a.toNat : Int) - m.toNat - (1 - cin.toNat)) =
      BitVec.ofNat 8 (a.toNat + (~~~m).toNat + cin.toNat) := by
    rw [← BitVec.ofInt_natCast, htotal]
    apply BitVec.eq_of_toNat_eq
    simp only [BitVec.toNat_ofInt]
    omega
  have hcarry : (0 ≤ (a.toNat : Int) - m.toNat - (1 - cin.toNat)) ↔ 255 < a.toNat + (~~~m).toNat + cin.toNat := by omega
  simp only [subCore, addCore, hresult, hcarry]

/-- The mask 0x80 keeps the sign bit. -/
theorem and_signMask_ne_zero_iff (x : Byte) : x &&& 0x80#8 ≠ 0#8 ↔ x.msb = true := by
  rw [show 0x80#8 = BitVec.twoPow 8 7 from rfl, BitVec.and_twoPow, BitVec.msb_eq_getLsbD_last]
  cases x.getLsbD 7 <;> decide

/-- V by signs: both operands have the sign that the result has not (R160). -/
theorem flagV_addCore_iff (a m p : Byte) (cin : Bool) : flagV (addCore a m cin p).2 = true ↔
    a.msb ≠ (addCore a m cin p).1.msb ∧ m.msb ≠ (addCore a m cin p).1.msb := by
  simp only [addCore, flagV_setNZ, flagV_setV, bne_iff_ne, and_signMask_ne_zero_iff, BitVec.msb_and, BitVec.msb_xor,
    Bool.and_eq_true]

/-- The adder's result is the signed sum mod 256 (R160). -/
theorem addCore_result (a m p : Byte) (cin : Bool) : (addCore a m cin p).1 = BitVec.ofInt 8 (a.toInt + m.toInt + cin.toNat) := by
  apply BitVec.eq_of_toNat_eq
  simp only [addCore, BitVec.toNat_ofNat, BitVec.toNat_ofInt, BitVec.toInt_eq_toNat_cond]
  omega

/-- The adder's V is signed overflow (R160, R177). -/
theorem flagV_addCore_iff_overflow (a m p : Byte) (cin : Bool) : flagV (addCore a m cin p).2 = true ↔
    a.toInt + m.toInt + cin.toNat < -128 ∨ 127 < a.toInt + m.toInt + cin.toNat := by
  have hr : (addCore a m cin p).1.toNat = (a.toNat + m.toNat + cin.toNat) % 256 := BitVec.toNat_ofNat _ _
  have hcin := cin.toNat_le
  rw [flagV_addCore_iff]
  simp only [BitVec.msb_eq_decide, hr, BitVec.toInt_eq_toNat_cond, ne_eq, decide_eq_decide]
  omega

theorem toInt_not (m : Byte) : (~~~m).toInt = -m.toInt - 1 := by
  simp only [BitVec.toInt_eq_toNat_cond, BitVec.toNat_not]
  omega

/-- Settles O32: the adder overflows as signed addition does, and subtraction is the adder on the complement. -/
theorem overflowIsSignedOverflow : Obligations.OverflowIsSignedOverflow := by
  unfold Obligations.OverflowIsSignedOverflow
  intro a m p cin
  have hdiff : a.toInt - m.toInt - (1 - cin.toNat) = a.toInt + (~~~m).toInt + cin.toNat := by
    rw [toInt_not]
    omega
  dsimp only
  rw [hdiff, subCore_eq_addCore_not]
  exact ⟨flagV_addCore_iff_overflow .., flagV_addCore_iff_overflow .., addCore_result .., addCore_result ..⟩

theorem addWithCarry_writes (m : Byte) (c : Cpu) (pc : Word) (n : Nat) :
    let t := c.a.toNat + m.toNat + (c.p.getLsbD 0).toNat
    let r := BitVec.ofNat 8 t
    OnlyA r c { addWithCarry m c with pc := pc, cycles := n } ∧
    StatusIs c.p (addWithCarry m c).p (r.getLsbD 7) (decide ((c.a ^^^ r) &&& (m ^^^ r) &&& 0x80#8 ≠ 0#8)) (flagD c.p) (flagI c.p)
      (decide (r = 0#8)) (decide (t > 255)) := by
  refine ⟨rfl, ?_⟩
  rw [decide_not]
  exact statusIs_setNZ_setV_setC _ _ _ _

theorem subWithBorrow_writes (m : Byte) (c : Cpu) (pc : Word) (n : Nat) :
    let t : Int := (c.a.toNat : Int) - m.toNat - (1 - (c.p.getLsbD 0).toNat)
    let r := BitVec.ofInt 8 t
    OnlyA r c { subWithBorrow m c with pc := pc, cycles := n } ∧
    StatusIs c.p (subWithBorrow m c).p (r.getLsbD 7) (decide ((c.a ^^^ r) &&& (~~~m ^^^ r) &&& 0x80#8 ≠ 0#8)) (flagD c.p)
      (flagI c.p) (decide (r = 0#8)) (decide (¬ t < 0)) := by
  refine ⟨rfl, ?_⟩
  simp only [Int.not_lt]
  rw [decide_not]
  exact statusIs_setNZ_setV_setC _ _ _ _

/-- Settles O31: every form is of class R, with the adder or the subtraction as its register change. -/
theorem adcAndSbc : Obligations.AdcAndSbc := by
  unfold Obligations.AdcAndSbc
  refine ⟨fun d w => ?_, fun d w => ?_, subCore_eq_addCore_not⟩
  · refine ⟨?_, ?_, ?_, ?_, ?_, ?_, ?_, ?_⟩ <;> exact readInstr_of_shape ⟨rfl, rfl⟩ rfl addWithCarry_writes
  · refine ⟨?_, ?_, ?_, ?_, ?_, ?_, ?_, ?_⟩ <;> exact readInstr_of_shape ⟨rfl, rfl⟩ rfl subWithBorrow_writes

/-! ### Logic, BIT and the compares -/

theorem resultA_writes (r : Byte) (c : Cpu) (pc : Word) (n : Nat) :
    OnlyA r c { resultA r c with pc := pc, cycles := n } ∧ OnlyNZ r c.p (resultA r c).p := ⟨rfl, onlyNZ_setNZ r c.p⟩

/-- Settles O33: every form is of class R, and writes A with its result and N and Z of it. -/
theorem logicInstructions : Obligations.LogicInstructions := by
  unfold Obligations.LogicInstructions
  intro d w
  refine ⟨?_, ?_, ?_⟩
  · refine ⟨?_, ?_, ?_, ?_, ?_, ?_, ?_, ?_⟩ <;>
      exact readInstr_of_shape ⟨rfl, rfl⟩ rfl fun m c => resultA_writes (c.a &&& m) c
  · refine ⟨?_, ?_, ?_, ?_, ?_, ?_, ?_, ?_⟩ <;>
      exact readInstr_of_shape ⟨rfl, rfl⟩ rfl fun m c => resultA_writes (c.a ||| m) c
  · refine ⟨?_, ?_, ?_, ?_, ?_, ?_, ?_, ?_⟩ <;>
      exact readInstr_of_shape ⟨rfl, rfl⟩ rfl fun m c => resultA_writes (c.a ^^^ m) c

/-- A compare takes C from the difference before it is masked (R167). -/
theorem onlyNZC_compareCore (reg m p : Byte) :
    OnlyNZC (BitVec.ofInt 8 ((reg.toNat : Int) - m.toNat)) (decide (¬ (reg.toNat : Int) - m.toNat < 0)) p (compareCore reg m p) := by
  simp only [Int.not_lt]
  exact onlyNZC_setNZ_setC _ _ _

/-- Settles O34: every form is of class R, and writes P alone. -/
theorem bitAndCompares : Obligations.BitAndCompares := by
  unfold Obligations.BitAndCompares
  refine ⟨fun d w => ?_, fun d w => ?_⟩
  · refine ⟨?_, ?_⟩ <;> exact readInstr_of_shape ⟨rfl, rfl⟩ rfl fun m c _ _ => ⟨rfl, statusIs_bitCore c.a m c.p⟩
  · refine ⟨?_, ?_, ?_⟩
    · refine ⟨?_, ?_, ?_, ?_, ?_, ?_, ?_, ?_⟩ <;>
        exact readInstr_of_shape ⟨rfl, rfl⟩ rfl fun m c _ _ => ⟨rfl, onlyNZC_compareCore c.a m c.p⟩
    · refine ⟨?_, ?_, ?_⟩ <;> exact readInstr_of_shape ⟨rfl, rfl⟩ rfl fun m c _ _ => ⟨rfl, onlyNZC_compareCore c.x m c.p⟩
    · refine ⟨?_, ?_, ?_⟩ <;> exact readInstr_of_shape ⟨rfl, rfl⟩ rfl fun m c _ _ => ⟨rfl, onlyNZC_compareCore c.y m c.p⟩

/-! ### Read-modify-write on memory -/

/-- Where no hook claims a write, none answers a read (20_memory.md R73). -/
theorem readHooked_eq_false_of_writeHooked {p : Word} (h : writeHooked p = false) : readHooked p = false := by
  rw [← Bool.not_eq_true, writeHooked_iff] at h
  rw [← Bool.not_eq_true, readHooked_iff]
  simp only [List.mem_cons, List.not_mem_nil, or_false]
  omega

/-- Access class RMW on memory, for the modes such an instruction can have (30_encoding.md R124). -/
theorem modifyInstr_of_shape {i : Instr} {op : Byte} {f : Byte → Byte → Byte × Byte} {m : Mode} {len base : Nat}
    {result : Byte → Byte → Byte} {post : Byte → Byte → Byte → Prop} (hm : ∀ w, m ≠ .ind w) (henc : EncodedAs i op len)
    (hshape : Shape.of i = .modify f m len base) (hresult : ∀ v p, (f v p).1 = result v p) (hpost : ∀ v p, post v p (f v p).2) :
    ModifyInstr i op m len base result post := by
  refine ⟨henc, fun s => ⟨_, exec_shape i s, ?_⟩⟩
  have hresolve := resolve_state_eq_setBus hm s
  obtain ⟨⟨hbytes, -⟩, -⟩ := (resolve_readFrame m s).trans (cpuRead_readFrame (resolve m s).1.addr _)
  rw [hshape, Shape.run, modifyClass_eq, hresult]
  refine ⟨rfl, hpost _ _, by simp, by simp, by simp, cpuWrite_lastWrite _ _ _, fun q hq => ?_, fun hplain => ?_, fun _ => rfl⟩
  · rw [State.setCpu_cpuByte, cpuWrite_cpuByte_other _ _ hq, hbytes]
  · rw [cpuWrite_plain _ _ hplain, cpuRead_plain _ (readHooked_eq_false_of_writeHooked hplain), hresolve]
    exact ⟨rfl, putCpuByte_cpuByte_same _ _ _, ⟨fun _ => rfl, fun _ => rfl, fun _ => rfl⟩, ⟨rfl, rfl, rfl, rfl, rfl, rfl⟩, rfl⟩

/-! ### Increments and decrements -/

theorem ofNat_toNat_add_one (v : Byte) : BitVec.ofNat 8 (v.toNat + 1) = v + 1#8 := by
  rw [BitVec.ofNat_add, BitVec.ofNat_toNat, BitVec.setWidth_eq]

theorem ofInt_toNat_sub_one (v : Byte) : BitVec.ofInt 8 ((v.toNat : Int) - 1) = v - 1#8 := by
  apply BitVec.eq_of_toNat_eq
  simp only [BitVec.toNat_ofInt, BitVec.toNat_sub, BitVec.toNat_ofNat]
  omega

/-- Settles O35: INC and DEC are of class RMW; the register forms are the loads' register changes of the next or previous value. -/
theorem incrementsAndDecrements : Obligations.IncrementsAndDecrements := by
  unfold Obligations.IncrementsAndDecrements
  simp only [ofNat_toNat_add_one, ofInt_toNat_sub_one]
  refine ⟨fun d w => ?_, ?_⟩
  · refine ⟨?_, ?_, ?_, ?_, ?_, ?_, ?_, ?_⟩
    iterate 4 exact modifyInstr_of_shape (fun _ => Mode.noConfusion) ⟨rfl, rfl⟩ rfl (fun _ _ => rfl) fun v => onlyNZ_setNZ (v + 1#8)
    iterate 4 exact modifyInstr_of_shape (fun _ => Mode.noConfusion) ⟨rfl, rfl⟩ rfl (fun _ _ => rfl) fun v => onlyNZ_setNZ (v - 1#8)
  · exact ⟨registerInstr_of_shape ⟨rfl, rfl⟩ rfl fun c => loadX_writes (c.x + 1#8) c,
      registerInstr_of_shape ⟨rfl, rfl⟩ rfl fun c => loadY_writes (c.y + 1#8) c,
      registerInstr_of_shape ⟨rfl, rfl⟩ rfl fun c => loadX_writes (c.x - 1#8) c,
      registerInstr_of_shape ⟨rfl, rfl⟩ rfl fun c => loadY_writes (c.y - 1#8) c⟩

end Sys2Proof.Machine
end

section
/-!
PROOFS: shifts and rotates (43_shift_rotate.md R190 to R194). Each core is a multiplication or a division by two with the carry taken
in, in numbers, and all four write P alike; each obligation row is then one shape of its instruction.
-/
namespace Sys2Proof.Machine

/-! ### The four results in numbers -/

theorem shiftLeft_one_eq_ofNat (m : Byte) : m <<< 1 = BitVec.ofNat 8 (m.toNat * 2) := by
  apply BitVec.eq_of_toNat_eq
  rw [BitVec.toNat_shiftLeft, Nat.shiftLeft_eq, pow_one, BitVec.toNat_ofNat]

theorem ushiftRight_one_eq_ofNat (m : Byte) : m >>> 1 = BitVec.ofNat 8 (m.toNat / 2) := by
  apply BitVec.eq_of_toNat_eq
  rw [BitVec.toNat_ushiftRight, Nat.shiftRight_eq_div_pow, pow_one, BitVec.toNat_ofNat, Nat.mod_eq_of_lt (by omega)]

/-- The bit rotated in at the right takes the place the shift left empty (R193). -/
theorem rotateLeft_eq_ofNat (m : Byte) (cin : Bool) :
    m <<< 1 ||| (if cin then 1#8 else 0#8) = BitVec.ofNat 8 (m.toNat * 2 + cin.toNat) := by
  have hcin : (if cin then 1#8 else 0#8) = BitVec.ofNat 8 cin.toNat := by cases cin <;> rfl
  have hor : m.toNat * 2 + cin.toNat = m.toNat * 2 ||| cin.toNat := by
    rw [Nat.mul_comm]
    exact Nat.two_pow_add_eq_or_of_lt (i := 1) cin.toNat_lt m.toNat
  rw [hor, BitVec.ofNat_or, shiftLeft_one_eq_ofNat, hcin]

/-- The bit rotated in at the left is above the seven that are left of the byte (R194). -/
theorem rotateRight_eq_ofNat (m : Byte) (cin : Bool) :
    m >>> 1 ||| (if cin then 0x80#8 else 0#8) = BitVec.ofNat 8 (m.toNat / 2 + 128 * cin.toNat) := by
  have hcin : (if cin then 0x80#8 else 0#8) = BitVec.ofNat 8 (128 * cin.toNat) := by cases cin <;> rfl
  have hhalf : m.toNat / 2 < 2 ^ 7 := by omega
  have hor : m.toNat / 2 + 128 * cin.toNat = m.toNat / 2 ||| 128 * cin.toNat := by
    rw [Nat.add_comm, Nat.or_comm]
    exact Nat.two_pow_add_eq_or_of_lt hhalf cin.toNat
  rw [hor, BitVec.ofNat_or, ushiftRight_one_eq_ofNat, hcin]

/-! ### What the four cores share -/

/-- A core as R190 has it: the byte `result` gives, C from bit `out` of the operand, N and Z from the result. -/
def IsShift (core : Byte → Byte → Byte × Byte) (result : Byte → Byte → Byte) (out : Nat) : Prop :=
  ∀ m p, core m p = (result m p, setNZ (result m p) (setC (m.getLsbD out) p))

theorem aslCore_isShift : IsShift aslCore (fun m _ => BitVec.ofNat 8 (m.toNat * 2)) 7 := fun m p => by
  rw [aslCore, shiftLeft_one_eq_ofNat]

theorem lsrCore_isShift : IsShift lsrCore (fun m _ => BitVec.ofNat 8 (m.toNat / 2)) 0 := fun m p => by
  rw [lsrCore, ushiftRight_one_eq_ofNat]

theorem rolCore_isShift : IsShift rolCore (fun m p => BitVec.ofNat 8 (m.toNat * 2 + (flagC p).toNat)) 7 := fun m p => by
  rw [rolCore, rotateLeft_eq_ofNat]

theorem rorCore_isShift : IsShift rorCore (fun m p => BitVec.ofNat 8 (m.toNat / 2 + 128 * (flagC p).toNat)) 0 := fun m p => by
  rw [rorCore, rotateRight_eq_ofNat]

section
variable {core : Byte → Byte → Byte × Byte} {result : Byte → Byte → Byte} {out : Nat} (hcore : IsShift core result out)
include hcore

theorem IsShift.fst_eq (m p : Byte) : (core m p).1 = result m p := by rw [hcore]

theorem IsShift.onlyNZC (m p : Byte) : OnlyNZC (result m p) (m.getLsbD out) p (core m p).2 := by
  rw [hcore]
  exact onlyNZC_setNZ_setC _ _ _

/-- A shift of A: access class NONE. -/
theorem IsShift.registerInstr {i : Instr} {op : Byte} {len base : Nat} (henc : EncodedAs i op len)
    (hshape : Shape.of i = .register (fun c => { c with a := (core c.a c.p).1, p := (core c.a c.p).2 }) len base) :
    RegisterInstr i op len base
      (fun c c' => OnlyA (result c.a c.p) c c' ∧ OnlyNZC (result c.a c.p) (c.a.getLsbD out) c.p c'.p) :=
  registerInstr_of_shape henc hshape fun c _ _ => ⟨by rw [hcore.fst_eq]; rfl, hcore.onlyNZC c.a c.p⟩

/-- A shift of a byte of memory: access class RMW. -/
theorem IsShift.modifyInstr {i : Instr} {op : Byte} {m : Mode} {len base : Nat} (hm : ∀ w, m ≠ .ind w) (henc : EncodedAs i op len)
    (hshape : Shape.of i = .modify core m len base) :
    ModifyInstr i op m len base result (fun v p p' => OnlyNZC (result v p) (v.getLsbD out) p p') :=
  modifyInstr_of_shape hm henc hshape hcore.fst_eq hcore.onlyNZC

end

/-! ### The obligation -/

/-- Settles O36: the ACC form of each of the four is its core's shift of A, the other forms its shift of a byte of memory. -/
theorem shiftsAndRotates : Obligations.ShiftsAndRotates := by
  unfold Obligations.ShiftsAndRotates
  intro d w
  refine ⟨⟨?_, ?_, ?_, ?_⟩, ⟨?_, ?_, ?_, ?_⟩, ⟨?_, ?_, ?_, ?_⟩, ⟨?_, ?_, ?_, ?_⟩, ⟨?_, ?_, ?_, ?_⟩⟩
  · exact aslCore_isShift.registerInstr ⟨rfl, rfl⟩ rfl
  · exact lsrCore_isShift.registerInstr ⟨rfl, rfl⟩ rfl
  · exact rolCore_isShift.registerInstr ⟨rfl, rfl⟩ rfl
  · exact rorCore_isShift.registerInstr ⟨rfl, rfl⟩ rfl
  iterate 4 exact aslCore_isShift.modifyInstr (fun _ => Mode.noConfusion) ⟨rfl, rfl⟩ rfl
  iterate 4 exact lsrCore_isShift.modifyInstr (fun _ => Mode.noConfusion) ⟨rfl, rfl⟩ rfl
  iterate 4 exact rolCore_isShift.modifyInstr (fun _ => Mode.noConfusion) ⟨rfl, rfl⟩ rfl
  iterate 4 exact rorCore_isShift.modifyInstr (fun _ => Mode.noConfusion) ⟨rfl, rfl⟩ rfl

end Sys2Proof.Machine
end

section
/-!
PROOFS: control flow (44_control_flow.md R200 to R214) and the exception entry it shares with interrupts (60_exceptions.md R304). The
stack and the vectors are plain memory, so each push, pull and vector read is its bytes and its log entry; what undoes an entry is
then read off the statements about the entry and about the return.
-/
namespace Sys2Proof.Machine

/-! ### The two bytes of a word -/

theorem lowByte_toNat (w : Word) : (lowByte w).toNat = w.toNat % 256 := BitVec.toNat_setWidth 8 w

theorem highByte_toNat (w : Word) : (highByte w).toNat = w.toNat / 256 := by
  rw [highByte, BitVec.toNat_setWidth, BitVec.toNat_ushiftRight, Nat.shiftRight_eq_div_pow]
  omega

theorem wordOf_eq_ofNat (hi lo : Byte) : wordOf hi lo = BitVec.ofNat 16 (hi.toNat * 256 + lo.toNat) := by
  rw [← wordOf_toNat, BitVec.ofNat_toNat, BitVec.setWidth_eq]

/-! ### Branches -/

/-- The extra cycles of a branch (70_reset_and_hazards.md R404) as one condition. -/
theorem branchExtra_eq (taken : Bool) (npc target : Word) (s : State) : branchExtra taken npc target s =
    if s.params.extraCycles = .nmos ∧ taken = true then (if pageCrossed npc target then 2 else 1) else 0 := by
  unfold branchExtra
  cases s.params.extraCycles <;> simp

/-- Access class BR (30_encoding.md R124). -/
theorem branchInstr_of_shape {i : Instr} {op b1 : Byte} {cond : Byte → Bool} (henc : encode i = [op, b1])
    (hshape : Shape.of i = .branch cond b1) : BranchInstr i op b1 cond := by
  refine ⟨henc, fun s => ?_⟩
  rw [exec_shape, hshape, Shape.run, branchClass_eq, branchExtra_eq, ← Nat.add_assoc]
  rfl

/-- The target of a branch in numbers: the operand is signed (30_encoding.md R122). -/
theorem branchTarget_toNat (npc : Word) (o : Byte) :
    ((branchTarget npc o).toNat : Int) = ((npc.toNat : Int) + o.toInt) % 0x10000 := by
  have hsum : branchTarget npc o = BitVec.ofInt 16 (npc.toNat + o.toInt) := by
    rw [BitVec.ofInt_add, BitVec.ofInt_natCast, BitVec.ofNat_toNat, BitVec.setWidth_eq]
    rfl
  rw [hsum, BitVec.toNat_ofInt]
  omega

/-- Settles O37: every branch is of class BR, with its flag as the condition. -/
theorem branchesFollowTheirFlag : Obligations.BranchesFollowTheirFlag := by
  unfold Obligations.BranchesFollowTheirFlag
  refine ⟨fun o => ⟨?_, ?_, ?_, ?_, ?_, ?_, ?_, ?_⟩, fun npc o => ⟨branchTarget_toNat npc o, pageCrossed_iff _ _⟩⟩ <;>
    exact branchInstr_of_shape rfl rfl

/-! ### Jumps -/

/-- Masking with the page mask keeps the high byte. -/
theorem toNat_and_pageMask (w : Word) : (w &&& 0xFF00#16).toNat = 2 ^ 8 * (w.toNat / 256) := by
  rw [show (0xFF00#16 : Word) = BitVec.allOnes 16 <<< 8 from rfl, ← BitVec.shiftLeft_ushiftRight, BitVec.toNat_shiftLeft,
    BitVec.toNat_ushiftRight, Nat.shiftLeft_eq, Nat.shiftRight_eq_div_pow]
  omega

/-- The second pointer byte lies in the page of the first (R119). -/
theorem samePageNext_eq_ofNat (w : Word) : samePageNext w = BitVec.ofNat 16 (w.toNat / 256 * 256 + (w.toNat + 1) % 256) := by
  have hlow : ((w + 1#16) &&& 0x00FF#16).toNat = (w.toNat + 1) % 256 := by
    refine (toNat_and_lowMask (w + 1#16) (k := 8) (by decide)).trans ?_
    rw [BitVec.toNat_add, BitVec.toNat_ofNat]
    omega
  have hor : w.toNat / 256 * 256 + (w.toNat + 1) % 256 = 2 ^ 8 * (w.toNat / 256) ||| (w.toNat + 1) % 256 := by
    rw [Nat.mul_comm]
    exact Nat.two_pow_add_eq_or_of_lt (i := 8) (Nat.mod_lt _ (by decide)) _
  rw [hor, ← toNat_and_pageMask, ← hlow, ← BitVec.toNat_or, BitVec.ofNat_toNat, BitVec.setWidth_eq, samePageNext]

/-- Settles O38: the direct jump writes its operand, the indirect one the word its pointer reads give. -/
theorem jumpsSetPc : Obligations.JumpsSetPc := by
  unfold Obligations.JumpsSetPc
  intro w s
  refine ⟨rfl, rfl, rfl, ?_⟩
  dsimp only
  rw [← samePageNext_eq_ofNat, ← wordOf_eq_ofNat]
  refine ⟨?_, cpuReadPair_readFrame w (samePageNext w) s⟩
  rw [exec_shape, Shape.of, Shape.run, jumpThrough, retire_eq, resolve_cpu]
  rfl

/-! ### Places on the stack -/

theorem stackAddr_eq_ofNat (sp : Byte) : stackAddr sp = BitVec.ofNat 16 (0x100 + sp.toNat) := by
  rw [← stackAddr_toNat, BitVec.ofNat_toNat, BitVec.setWidth_eq]

/-- Places down the stack do not wrap onto each other within 256 bytes. -/
theorem stackIndex_ne {s : State} {j k : Nat} (hjk : j < k) (hk : k < 256) : stackIndex s j ≠ stackIndex s k := by
  simp only [stackIndex, BitVec.toNat_sub, BitVec.toNat_ofNat]
  omega

/-- What was pushed `n - k` places below lies `k` places above the SP that has gone `n` down. -/
theorem stackIndexUp_of_sp_sub {s t : State} {n : Nat} (hsp : t.cpu.sp = s.cpu.sp - BitVec.ofNat 8 n) {k : Nat} (hk : k ≤ n) :
    stackIndexUp t k = stackIndex s (n - k) := by
  have hn : BitVec.ofNat 8 n = BitVec.ofNat 8 (n - k) + BitVec.ofNat 8 k := by rw [← BitVec.ofNat_add, Nat.sub_add_cancel hk]
  rw [stackIndexUp, stackIndex, hsp, hn, ← BitVec.sub_sub, BitVec.sub_add_cancel]

/-! ### Pushes and pulls -/

@[simp] theorem logRead_cpuByte (p : Word) (s : State) (q : Nat) : (logRead p s).cpuByte q = s.cpuByte q := rfl

/-- A word on the stack: its high byte first, so the low byte below it (20_memory.md R79). -/
theorem pushWord_eq (w : Word) (s : State) : pushWord w s =
    ((putCpuByte (stackIndex s 1) (lowByte w) (putCpuByte (stackIndex s 0) (highByte w) s)).setBus
      { s.bus with lastWrite := some (BitVec.ofNat 16 (stackIndex s 1)) }).setCpu { s.cpu with sp := s.cpu.sp - 2#8 } := by
  have hsp : s.cpu.sp - 1#8 - 1#8 = s.cpu.sp - 2#8 := by rw [BitVec.sub_sub]; rfl
  simp only [pushWord, push_eq, State.setCpu_cpu, hsp, stackAddr_eq_ofNat]
  simp only [stackIndex, BitVec.sub_zero]
  rfl

/-- A word off the stack: its low byte first (R79). -/
theorem pullWord_eq (s : State) : pullWord s =
    (wordOf (s.cpuByte (stackIndexUp s 2)) (s.cpuByte (stackIndexUp s 1)),
      (logRead (BitVec.ofNat 16 (stackIndexUp s 2)) s).setCpu { s.cpu with sp := s.cpu.sp + 2#8 }) := by
  have hsp : s.cpu.sp + 1#8 + 1#8 = s.cpu.sp + 2#8 := by rw [BitVec.add_assoc]; rfl
  simp only [pullWord, pull_eq, State.setCpu_cpu, hsp, stackAddr_eq_ofNat]
  rfl

/-! ### Subroutines -/

/-- Settles O39: the call is a push of a word, the return a pull of one. -/
theorem subroutineCallAndReturn : Obligations.SubroutineCallAndReturn := by
  unfold Obligations.SubroutineCallAndReturn
  refine ⟨fun w s => ⟨_, rfl, exec_shape _ s, ?_⟩, fun s => ⟨(pullWord s).1 + 1#16, rfl, ?_, ?_⟩⟩
  · have hpc : (nextPc 2 s).toNat = (s.cpu.pc.toNat + 2) % 0x10000 := BitVec.toNat_add _ _
    have hne : stackIndex s 0 ≠ stackIndex s 1 := stackIndex_ne (by decide) (by decide)
    rw [Shape.of, Shape.run, pushWord_eq, retire_eq]
    simp only [State.setCpu_cpuByte, State.setBus_cpuByte]
    refine ⟨?_, ?_, fun q h0 h1 => ?_, rfl, ⟨fun _ => rfl, fun _ => rfl, fun _ => rfl⟩, ⟨rfl, rfl, rfl, rfl, rfl, rfl⟩, rfl⟩
    · rw [putCpuByte_cpuByte_other _ _ hne, putCpuByte_cpuByte_same, highByte_toNat, hpc]
    · rw [putCpuByte_cpuByte_same, lowByte_toNat, hpc]
      omega
    · rw [putCpuByte_cpuByte_other _ _ h1, putCpuByte_cpuByte_other _ _ h0]
  · rw [exec_shape, Shape.of, Shape.run, returnToCaller, pullWord_eq]
    rfl
  · rw [pullWord_eq, BitVec.toNat_add, wordOf_toNat]
    rfl

/-! ### Exceptions -/

/-- Settles O41: the return pulls P, then a word from one place above. -/
theorem rtiRestores : Obligations.RtiRestores := by
  unfold Obligations.RtiRestores
  intro s
  refine ⟨wordOf (s.cpuByte (stackIndexUp s 3)) (s.cpuByte (stackIndexUp s 2)), rfl, ?_, wordOf_toNat _ _⟩
  rw [exec_shape, Shape.of, Shape.run]
  simp only [returnFromException, pullWord_eq, pull_eq, stackAddr_eq_ofNat, stackIndexUp, State.setCpu_cpu, BitVec.add_assoc,
    BitVec.reduceAdd]
  rfl

/-- From 0x8000 on there is program memory, no mirror and no hook (20_memory.md R62, R73). -/
theorem cpuRead_program {a : Word} (ha : 0x8000 ≤ a.toNat) (s : State) : cpuRead a s = (s.cpuByte a.toNat, logRead a s) := by
  have hmirror : cpuMirror a = a := (cpuMirror_eq_self_iff a).2 (.inr (.inr (by omega)))
  have hplain : readHooked a = false := by
    rw [← Bool.not_eq_true, readHooked_iff]
    simp only [List.mem_cons, List.not_mem_nil, or_false]
    omega
  rw [cpuRead_plain s (by rw [hmirror]; exact hplain), hmirror]

/-- A vector: two bytes of program memory, the low one first (20_memory.md R78). -/
theorem cpuReadPair_program {vector : Word} (hv : 0x8000 ≤ vector.toNat) (hv' : vector.toNat < 0xFFFF) (s : State) :
    cpuReadPair vector (vector + 1#16) s = (wordOf (s.cpuByte (vector.toNat + 1)) (s.cpuByte vector.toNat),
      logRead (BitVec.ofNat 16 (vector.toNat + 1)) s) := by
  have hnext : (vector + 1#16).toNat = vector.toNat + 1 := by
    rw [BitVec.toNat_add, BitVec.toNat_ofNat]
    omega
  have hread := cpuRead_program (a := vector + 1#16) (by omega)
  simp only [cpuReadPair, cpuRead_program hv, hread, hnext]
  rw [← hnext, BitVec.ofNat_toNat, BitVec.setWidth_eq]
  rfl

/-- No push reaches beyond page 1. -/
theorem push_cpuByte_above (v : Byte) (s : State) {q : Nat} (hq : 0x200 ≤ q) : (push v s).cpuByte q = s.cpuByte q := by
  have hout : q ≠ 0x100 + s.cpu.sp.toNat := by omega
  rw [push_eq, State.setCpu_cpuByte, putCpuByte_cpuByte_other _ _ hout, logWrite_cpuByte]

/-- What an exception pushes: the saved PC, and below it P (R304). -/
theorem push_pushWord_eq (v : Byte) (w : Word) (s : State) : push v (pushWord w s) =
    ((putCpuByte (stackIndex s 2) v
      (putCpuByte (stackIndex s 1) (lowByte w) (putCpuByte (stackIndex s 0) (highByte w) s))).setBus
      { s.bus with lastWrite := some (BitVec.ofNat 16 (stackIndex s 2)) }).setCpu { s.cpu with sp := s.cpu.sp - 3#8 } := by
  have hsp : s.cpu.sp - 2#8 - 1#8 = s.cpu.sp - 3#8 := by rw [BitVec.sub_sub]; rfl
  simp only [push_eq v, pushWord_eq, State.setCpu_cpu, hsp, stackAddr_eq_ofNat]
  rfl

/-- Taking an exception through a vector in program memory: the pushes, the registers, the last vector read (R304). -/
theorem takeException_eq (saved : Word) {vector : Word} (hv : 0x8000 ≤ vector.toNat) (hv' : vector.toNat < 0xFFFF) (cost : Nat)
    (s : State) : takeException saved vector cost s =
    (logRead (BitVec.ofNat 16 (vector.toNat + 1)) (push (pushedStatus s.cpu.p) (pushWord saved s))).setCpu { s.cpu with
      sp := s.cpu.sp - 3#8, p := setI true s.cpu.p
      pc := wordOf (s.cpuByte (vector.toNat + 1)) (s.cpuByte vector.toNat), cycles := s.cpu.cycles + cost } := by
  have hcpu : (push (pushedStatus s.cpu.p) (pushWord saved s)).cpu = { s.cpu with sp := s.cpu.sp - 3#8 } := by
    rw [push_pushWord_eq]; rfl
  have hbyte {q : Nat} (hq : 0x8000 ≤ q) : (push (pushedStatus s.cpu.p) (pushWord saved s)).cpuByte q = s.cpuByte q := by
    simp only [pushWord, push_cpuByte_above _ _ (Nat.le_trans (by decide) hq)]
  rw [takeException, cpuReadPair_program hv hv', State.setCpu_cpuByte, State.setCpu_cpuByte, hbyte hv, hbyte (Nat.le_succ_of_le hv),
    hcpu]
  rfl

/-- Setting I leaves the other flags and the held bits. -/
theorem statusIs_setI (b : Bool) (p : Byte) : StatusIs p (setI b p) (flagN p) (flagV p) (flagD p) b (flagZ p) (flagC p) := by
  simp [StatusIs]

/-- Every clause of R304: the three bytes lie at three places, and no other byte is written. -/
theorem takeException_entry (saved : Word) {vector : Word} (hv : 0x8000 ≤ vector.toNat) (hv' : vector.toNat < 0xFFFF) (cost : Nat)
    (s : State) : ExceptionEntry saved vector.toNat cost s (takeException saved vector cost s) := by
  have h01 : stackIndex s 0 ≠ stackIndex s 1 := stackIndex_ne (by decide) (by decide)
  have h02 : stackIndex s 0 ≠ stackIndex s 2 := stackIndex_ne (by decide) (by decide)
  have h12 : stackIndex s 1 ≠ stackIndex s 2 := stackIndex_ne (by decide) (by decide)
  rw [takeException_eq saved hv hv', push_pushWord_eq]
  refine ⟨?_, ?_, putCpuByte_cpuByte_same _ _ _, fun q h0 h1 h2 => ?_, rfl, statusIs_setI true s.cpu.p,
    ⟨fun _ => rfl, fun _ => rfl, fun _ => rfl⟩, ⟨rfl, rfl, rfl, rfl, rfl, rfl⟩, rfl⟩
  all_goals simp only [State.setCpu_cpuByte, logRead_cpuByte, State.setBus_cpuByte]
  · rw [putCpuByte_cpuByte_other _ _ h02, putCpuByte_cpuByte_other _ _ h01, putCpuByte_cpuByte_same, highByte_toNat]
  · rw [putCpuByte_cpuByte_other _ _ h12, putCpuByte_cpuByte_same, lowByte_toNat]
  · rw [putCpuByte_cpuByte_other _ _ h2, putCpuByte_cpuByte_other _ _ h1, putCpuByte_cpuByte_other _ _ h0]

/-- A return undoes an entry: it pulls the bytes that were pushed (R213, R304). -/
theorem ExceptionEntry.rti {saved : Word} {vector cost : Nat} {s t : State} (h : ExceptionEntry saved vector cost s t) :
    ∃ u, exec .rti t = .next u ∧
      u.cpu = { s.cpu with p := storedStatus (pushedStatus s.cpu.p), pc := saved, cycles := s.cpu.cycles + cost + 6 } := by
  obtain ⟨hhigh, hlow, hstatus, -, hcpu, -⟩ := h
  obtain ⟨pc, -, hexec, hpc⟩ := rtiRestores t
  have hsp : t.cpu.sp = s.cpu.sp - 3#8 := congrArg Cpu.sp hcpu
  have hup {k : Nat} (hk : k ≤ 3) : stackIndexUp t k = stackIndex s (3 - k) := stackIndexUp_of_sp_sub hsp hk
  refine ⟨_, hexec, ?_⟩
  rw [hup (by decide), hup (by decide), hhigh, hlow] at hpc
  have hsaved : pc = saved := BitVec.eq_of_toNat_eq (by omega)
  dsimp only
  rw [hup (by decide), hstatus, hsaved, hcpu, BitVec.sub_add_cancel]
  rfl

/-- Pulling P gives back what was pushed of it, where its bits 5 and 4 are held (10_state.md R26). -/
theorem StatusHeld.storedStatus_pushedStatus {s : State} (h : StatusHeld s) : storedStatus (pushedStatus s.cpu.p) = s.cpu.p := by
  obtain ⟨h5, h4⟩ := h
  refine status_ext (by simp) (by simp) (by simp) (by simp) (by simp) (by simp) ?_ ?_
  · rw [h4]; simp [storedStatus]
  · rw [h5]; simp [storedStatus]

/-- Settles O40: each return pulls the bytes its entry pushed. -/
theorem returnsUndoEntries : Obligations.ReturnsUndoEntries := by
  unfold Obligations.ReturnsUndoEntries
  refine ⟨fun w s => ?_, fun s hheld => ?_⟩
  · obtain ⟨hcall, hreturn⟩ := subroutineCallAndReturn
    obtain ⟨t, -, hjsr, hhigh, hlow, -, hcpu, -⟩ := hcall w s
    obtain ⟨pc, -, hrts, hpc⟩ := hreturn t
    have hsp : t.cpu.sp = s.cpu.sp - 2#8 := congrArg Cpu.sp hcpu
    have hup {k : Nat} (hk : k ≤ 2) : stackIndexUp t k = stackIndex s (2 - k) := stackIndexUp_of_sp_sub hsp hk
    rw [hup (by decide), hup (by decide), hhigh, hlow] at hpc
    have hback : pc = s.cpu.pc + 3#16 := BitVec.eq_of_toNat_eq (by rw [hpc, BitVec.toNat_add, BitVec.toNat_ofNat]; omega)
    refine ⟨t, _, hjsr, hrts, ?_⟩
    dsimp only
    rw [hcpu, hback, BitVec.sub_add_cancel]
  · obtain ⟨u, hexec, hcpu⟩ := (takeException_entry s.cpu.pc (vector := 0xFFFA#16) (by decide) (by decide) 7 s).rti
    rw [hheld.storedStatus_pushedStatus] at hcpu
    exact ⟨u, hexec, hcpu⟩

/-- Settles O42: BRK takes the exception, and the return pulls the bytes it pushed. -/
theorem brkTakesTheTrap : Obligations.BrkTakesTheTrap := by
  unfold Obligations.BrkTakesTheTrap
  intro s
  have hentry : ExceptionEntry (s.cpu.pc + 2#16) 0xFFFE 7 s (takeException (nextPc 2 s) Config.brkVector 7 s) :=
    takeException_entry (nextPc 2 s) (by decide) (by decide) 7 s
  obtain ⟨u, hexec, hcpu⟩ := hentry.rti
  exact ⟨_, rfl, exec_shape .brk s, hentry, u, hexec, by rw [hcpu], by rw [hcpu]⟩

end Sys2Proof.Machine
end

section
/-!
PROOFS: stack, flag and no-operation instructions (45_stack_flag_misc.md R220 to R234). Each push and pull is stated at its
place on the stack; that as many pulls undo a run of pushes is then an induction over the bytes, since the 256 places down the stack
are distinct.
-/
namespace Sys2Proof.Machine

/-! ### One push and one pull -/

/-- The push of `push_eq` at its place on the stack. -/
theorem push_eq_stackIndex (v : Byte) (s : State) : push v s =
    ((putCpuByte (stackIndex s 0) v s).setBus { s.bus with lastWrite := some (BitVec.ofNat 16 (stackIndex s 0)) }).setCpu
      { s.cpu with sp := s.cpu.sp - 1#8 } := by
  rw [push_eq, stackAddr_eq_ofNat, stackIndex, BitVec.sub_zero]
  rfl

/-- The pull of `pull_eq` at its place on the stack. -/
theorem pull_eq_stackIndexUp (s : State) : pull s = (s.cpuByte (stackIndexUp s 1),
    (s.setBus { s.bus with lastRead := some (BitVec.ofNat 16 (stackIndexUp s 1)) }).setCpu
      { s.cpu with sp := s.cpu.sp + 1#8 }) := by
  rw [pull_eq, stackAddr_eq_ofNat]
  rfl

theorem push_cpu (v : Byte) (s : State) : (push v s).cpu = { s.cpu with sp := s.cpu.sp - 1#8 } := by
  rw [push_eq_stackIndex, State.setCpu_cpu]

theorem pull_cpu (s : State) : (pull s).2.cpu = { s.cpu with sp := s.cpu.sp + 1#8 } := by
  rw [pull_eq_stackIndexUp, State.setCpu_cpu]

theorem push_cpuByte_same (v : Byte) (s : State) : (push v s).cpuByte (stackIndex s 0) = v := by
  rw [push_eq_stackIndex, State.setCpu_cpuByte, State.setBus_cpuByte, putCpuByte_cpuByte_same]

theorem push_cpuByte_other (v : Byte) {s : State} {q : Nat} (hq : q ≠ stackIndex s 0) : (push v s).cpuByte q = s.cpuByte q := by
  rw [push_eq_stackIndex, State.setCpu_cpuByte, State.setBus_cpuByte, putCpuByte_cpuByte_other _ _ hq]

theorem stackIndex_mem_page (s : State) (k : Nat) : 0x100 ≤ stackIndex s k ∧ stackIndex s k ≤ 0x1FF := by
  unfold stackIndex
  omega

/-- After a push every place is one further down. -/
theorem stackIndex_push (v : Byte) (s : State) (k : Nat) : stackIndex (push v s) k = stackIndex s (k + 1) := by
  rw [stackIndex, push_cpu, stackIndex, BitVec.sub_sub, Nat.add_comm k, BitVec.ofNat_add]

/-! ### The instructions -/

/-- Settles O44: PHA and PHP retire after a push, PLA and PLP after a pull into the registers. -/
theorem pushAndPullInstructions : Obligations.PushAndPullInstructions := by
  unfold Obligations.PushAndPullInstructions
  refine ⟨fun s => ⟨rfl, rfl, fun iv hiv => ?_⟩,
    fun s => ⟨rfl, rfl, ⟨setNZ (s.cpuByte (stackIndexUp s 1)) s.cpu.p, ?_, ?_⟩, ?_⟩⟩
  · have hexec : exec iv.1 s = .next (retire (nextPc 1 s) 3 (push iv.2 s)) := by
      obtain rfl | rfl : iv = (.pha, s.cpu.a) ∨ iv = (.php, s.cpu.p ||| 0x30#8) := by simpa using hiv
      · exact exec_shape .pha s
      · exact exec_shape .php s
    refine ⟨_, hexec, push_cpuByte_same _ _, fun q hq => push_cpuByte_other _ hq, ?_⟩
    rw [push_eq_stackIndex]
    exact ⟨rfl, ⟨fun _ => rfl, fun _ => rfl, fun _ => rfl⟩, ⟨rfl, rfl, rfl, rfl, rfl, rfl⟩, rfl⟩
  · rw [exec_shape, Shape.of, Shape.run, pullInto, pull_eq_stackIndexUp]
    rfl
  · exact onlyNZ_setNZ _ _
  · rw [exec_shape, Shape.of, Shape.run, pullInto, pull_eq_stackIndexUp]
    rfl

theorem statusIs_setC (b : Bool) (p : Byte) : StatusIs p (setC b p) (flagN p) (flagV p) (flagD p) (flagI p) (flagZ p) b := by
  simp [StatusIs]

theorem statusIs_setD (b : Bool) (p : Byte) : StatusIs p (setD b p) (flagN p) (flagV p) b (flagI p) (flagZ p) (flagC p) := by
  simp [StatusIs]

theorem statusIs_setV (b : Bool) (p : Byte) : StatusIs p (setV b p) (flagN p) b (flagD p) (flagI p) (flagZ p) (flagC p) := by
  simp [StatusIs]

/-- Settles O45: all eight are of class NONE, with one flag write as the register change, or none. -/
theorem flagInstructionsAndNop : Obligations.FlagInstructionsAndNop := by
  unfold Obligations.FlagInstructionsAndNop
  exact ⟨registerInstr_of_shape ⟨rfl, rfl⟩ rfl fun c _ _ => ⟨rfl, statusIs_setC false c.p⟩,
    registerInstr_of_shape ⟨rfl, rfl⟩ rfl fun c _ _ => ⟨rfl, statusIs_setD false c.p⟩,
    registerInstr_of_shape ⟨rfl, rfl⟩ rfl fun c _ _ => ⟨rfl, statusIs_setI false c.p⟩,
    registerInstr_of_shape ⟨rfl, rfl⟩ rfl fun c _ _ => ⟨rfl, statusIs_setV false c.p⟩,
    registerInstr_of_shape ⟨rfl, rfl⟩ rfl fun c _ _ => ⟨rfl, statusIs_setC true c.p⟩,
    registerInstr_of_shape ⟨rfl, rfl⟩ rfl fun c _ _ => ⟨rfl, statusIs_setD true c.p⟩,
    registerInstr_of_shape ⟨rfl, rfl⟩ rfl fun c _ _ => ⟨rfl, statusIs_setI true c.p⟩,
    registerInstr_of_shape ⟨rfl, rfl⟩ rfl fun _ _ _ => rfl⟩

/-! ### Runs of pushes and pulls -/

/-- A run of pushes writes the places it passes and no other byte. -/
theorem pushAll_cpuByte_other {bytes : List Byte} {s : State} {q : Nat} (hq : ∀ k < bytes.length, q ≠ stackIndex s k) :
    (pushAll bytes s).cpuByte q = s.cpuByte q := by
  induction bytes generalizing s with
  | nil => rfl
  | cons v rest ih =>
    have hrest : ∀ k < rest.length, q ≠ stackIndex (push v s) k := fun k hk => by
      rw [stackIndex_push]
      exact hq (k + 1) (Nat.succ_lt_succ hk)
    rw [pushAll, ih hrest, push_cpuByte_other v (hq 0 (Nat.succ_pos _))]

theorem pullMany_mem (n : Nat) (s : State) : (pullMany n s).2.mem = s.mem := by
  induction n generalizing s with
  | zero => rfl
  | succ n ih => rw [pullMany, ih, pull_mem]

/-- The last of a run of pulls, split off. -/
theorem pullMany_succ_last (n : Nat) (s : State) : pullMany (n + 1) s =
    ((pullMany n s).1 ++ [(pull (pullMany n s).2).1], (pull (pullMany n s).2).2) := by
  induction n generalizing s with
  | zero => rfl
  | succ n ih => rw [pullMany, ih, pullMany, List.cons_append]

/-- The byte pushed first is pulled last: the pulls before it undo the later pushes, and none of those reached its place. -/
theorem pullMany_pushAll {bytes : List Byte} (s : State) (hlen : bytes.length ≤ 256) :
    (pullMany bytes.length (pushAll bytes s)).1 = bytes.reverse ∧ (pullMany bytes.length (pushAll bytes s)).2.cpu = s.cpu := by
  induction bytes generalizing s with
  | nil => exact ⟨rfl, rfl⟩
  | cons v rest ih =>
    obtain ⟨hbytes, hcpu⟩ := ih (push v s) (Nat.le_of_succ_le hlen)
    rw [List.length_cons, pushAll, pullMany_succ_last]
    set u := (pullMany rest.length (pushAll rest (push v s))).2
    have hplace : stackIndexUp u 1 = stackIndex s 0 :=
      stackIndexUp_of_sp_sub (n := 1) (by rw [hcpu, push_cpu]) (Nat.le_refl 1)
    have hkept : ∀ k < rest.length, stackIndex s 0 ≠ stackIndex (push v s) k := fun k hk => by
      rw [stackIndex_push]
      exact stackIndex_ne (Nat.succ_pos k) (Nat.lt_of_le_of_lt hk hlen)
    have hlast : (pull u).1 = v := calc
      (pull u).1 = u.cpuByte (stackIndex s 0) := by rw [pull_eq_stackIndexUp, hplace]
      _ = (pushAll rest (push v s)).cpuByte (stackIndex s 0) := (SameBytes.of_mem (pullMany_mem _ _)).1 _
      _ = v := by rw [pushAll_cpuByte_other hkept, push_cpuByte_same]
    refine ⟨by rw [hbytes, hlast, List.reverse_cons], ?_⟩
    rw [pull_cpu, hcpu, push_cpu, BitVec.sub_add_cancel]

/-- Settles O46: the reversal by induction over the bytes, the wraps by SP's own arithmetic. -/
theorem stackReversesAndWraps : Obligations.StackReversesAndWraps := by
  unfold Obligations.StackReversesAndWraps
  refine ⟨fun bytes s hlen => ?_, fun v s hsp => ⟨?_, ?_⟩, fun s hsp => ⟨?_, ?_⟩⟩
  · obtain ⟨hbytes, hcpu⟩ := pullMany_pushAll s hlen
    exact ⟨hbytes, hcpu, fun q hq => pushAll_cpuByte_other fun k _ hk => hq (hk ▸ stackIndex_mem_page s k)⟩
  · have hplace : stackIndex s 0 = 0x100 := by rw [stackIndex, hsp]; rfl
    rw [← hplace, push_cpuByte_same]
  · rw [push_cpu, hsp]; rfl
  · have hplace : stackIndexUp s 1 = 0x100 := by rw [stackIndexUp, hsp]; rfl
    rw [pull_eq_stackIndexUp, hplace]
  · rw [pull_cpu, hsp]; rfl

end Sys2Proof.Machine
end

section
/-!
PROOFS: the PPU's registers through the bus (60_exceptions.md R320 to R336) and the controller port (R370 to R372). Every access is
first reduced to the device's own operation on the logged state, then that operation is read field by field.
-/
namespace Sys2Proof.Machine

/-! ### From the bus to the device -/

theorem cpuRead_of_ppu {a : Word} {s : State} {r : Byte × State}
    (h : ppuTryRead (cpuMirror a) (logRead (cpuMirror a) s) = some r) : cpuRead a s = r := by
  simp [cpuRead, readHooks, askReadHooks, h]

theorem cpuWrite_of_ppu {a : Word} {v : Byte} {s t : State}
    (h : ppuTryWrite (cpuMirror a) v (logWrite (cpuMirror a) s) = some t) : cpuWrite a v s = t := by
  simp [cpuWrite, writeHooks, askWriteHooks, h]

theorem cpuRead_status_port {a : Word} (s : State) (h : cpuMirror a = 0x2002#16) :
    cpuRead a s = readStatus (logRead 0x2002#16 s) := cpuRead_of_ppu (by rw [h]; rfl)

theorem cpuRead_data_port {a : Word} (s : State) (h : cpuMirror a = 0x2007#16) :
    cpuRead a s = readData (logRead 0x2007#16 s) := cpuRead_of_ppu (by rw [h]; rfl)

theorem cpuWrite_oamdata_port {a : Word} (v : Byte) (s : State) (h : cpuMirror a = 0x2004#16) :
    cpuWrite a v s = writeOamdata v (logWrite 0x2004#16 s) := cpuWrite_of_ppu (by rw [h]; rfl)

theorem cpuWrite_scroll_port {a : Word} (v : Byte) (s : State) (h : cpuMirror a = 0x2005#16) :
    cpuWrite a v s = writeScroll v (logWrite 0x2005#16 s) := cpuWrite_of_ppu (by rw [h]; rfl)

theorem cpuWrite_addr_port {a : Word} (v : Byte) (s : State) (h : cpuMirror a = 0x2006#16) :
    cpuWrite a v s = writeAddr v (logWrite 0x2006#16 s) := cpuWrite_of_ppu (by rw [h]; rfl)

theorem cpuWrite_data_port {a : Word} (v : Byte) (s : State) (h : cpuMirror a = 0x2007#16) :
    cpuWrite a v s = writeData v (logWrite 0x2007#16 s) := cpuWrite_of_ppu (by rw [h]; rfl)

theorem cpuRead_controller (s : State) : cpuRead 0x4016#16 s = readPad (logRead 0x4016#16 s) := rfl

theorem cpuWrite_controller (v : Byte) (s : State) : cpuWrite 0x4016#16 v s = writePad v (logWrite 0x4016#16 s) := rfl

/-! ### Registers that hold what is written -/

/-- Settles O17: each access is the register's own field and the log entry. -/
theorem plainRegisters : Obligations.PlainRegisters := by
  unfold Obligations.PlainRegisters
  refine ⟨fun a s => ⟨fun h => ?_, fun h => ?_, fun h => ?_⟩, fun a v s => ⟨fun h => ?_, fun h => ?_, fun h => ?_, fun h => ?_⟩⟩
  iterate 3 exact cpuRead_of_ppu (by rw [h]; rfl)
  iterate 4 exact cpuWrite_of_ppu (by rw [h]; rfl)

/-- A STATUS byte with bits 6:0 clear is its VBlank bit. -/
theorem eq_vblankBit_of_and_eq_zero : ∀ v : Byte, v &&& 0x7F#8 = 0#8 → v = if v.getLsbD 7 then 0x80#8 else 0x00#8 := by decide

/-- Settles O18: STATUS is its VBlank bit alone, which the read clears. -/
theorem statusRead : Obligations.StatusRead := by
  unfold Obligations.StatusRead
  intro a s ha hv
  have hcleared : s.ppu.status &&& 0x7F#8 = 0#8 := hv
  dsimp only
  rw [cpuRead_status_port s ha]
  refine ⟨rfl, eq_vblankBit_of_and_eq_zero _ hv, ?_⟩
  rw [← hcleared]
  rfl

/-- Settles O19: no hook answers these reads, and every write to these addresses is claimed. -/
theorem writeOnlyRegisterReads : Obligations.WriteOnlyRegisterReads := by
  unfold Obligations.WriteOnlyRegisterReads
  intro a s ha
  have hread : readHooked (cpuMirror a) = false := by obtain h | h | h | h := ha <;> rw [h] <;> rfl
  have hwrite : writeHooked (cpuMirror a) = true := by obtain h | h | h | h := ha <;> rw [h] <;> rfl
  refine ⟨cpuRead_plain s hread, fun b v => cpuWrite_cpuByte_other v s ?_⟩
  by_cases hb : cpuMirror b = cpuMirror a
  · exact .inr (hb ▸ hwrite)
  · exact .inl fun h => hb (BitVec.eq_of_toNat_eq h.symm)

/-- Settles O20: one store into OAM and one step of `oamaddr`. -/
theorem oamDataWrite : Obligations.OamDataWrite := by
  unfold Obligations.OamDataWrite
  intro a v s ha
  dsimp only
  rw [cpuWrite_oamdata_port v s ha]
  exact ⟨putOamByte_oamByte_same _ v _, fun i hi => putOamByte_oamByte_other v _ hi, fun _ => rfl, fun _ => rfl, fun _ => rfl, rfl,
    BitVec.toNat_add _ _, rfl⟩

/-! ### SCROLL and ADDR -/

/-- The second ADDR write replaces the low byte. -/
theorem and_or_lowByte (w : Word) (v : Byte) : (w &&& 0xFF00#16) ||| v.setWidth 16 = wordOf (highByte w) v := by
  apply BitVec.eq_of_toNat_eq
  rw [BitVec.toNat_or, toNat_and_pageMask, BitVec.toNat_setWidth, Nat.mod_eq_of_lt (by omega), wordOf_toNat, highByte_toNat,
    Nat.mul_comm _ 256]
  exact (Nat.two_pow_add_eq_or_of_lt (i := 8) v.isLt _).symm

/-- The first ADDR write replaces the high byte. -/
theorem and_or_highByte (w : Word) (v : Byte) : (w &&& 0x00FF#16) ||| (v.setWidth 16 <<< 8) = wordOf v (lowByte w) := by
  have hlow : (w &&& 0x00FF#16).toNat = w.toNat % 256 := toNat_and_lowMask w (k := 8) (by decide)
  have hhigh : (v.setWidth 16 <<< 8 : Word).toNat = 2 ^ 8 * v.toNat := by
    rw [BitVec.toNat_shiftLeft, BitVec.toNat_setWidth, Nat.shiftLeft_eq]
    omega
  apply BitVec.eq_of_toNat_eq
  rw [BitVec.toNat_or, hlow, hhigh, Nat.or_comm, ← Nat.two_pow_add_eq_or_of_lt (Nat.mod_lt _ (by decide)), wordOf_toNat,
    lowByte_toNat, Nat.mul_comm]

theorem writeAddr_eq (v : Byte) (s : State) : writeAddr v s = s.setPpu { s.ppu with
    intlAddr := if s.ppu.w then wordOf (highByte s.ppu.intlAddr) v else wordOf v (lowByte s.ppu.intlAddr), w := !s.ppu.w } := by
  unfold writeAddr
  rw [and_or_lowByte, and_or_highByte]
  cases s.ppu.w <;> rfl

theorem writeScroll_eq (v : Byte) (s : State) : writeScroll v s = s.setPpu { s.ppu with
    scrollX := if s.ppu.w then s.ppu.scrollX else v, scrollY := if s.ppu.w then v else s.ppu.scrollY, w := !s.ppu.w } := by
  unfold writeScroll
  cases s.ppu.w <;> rfl

/-- Settles O21: each port's byte by the toggle; the STATUS read before two ADDR writes clears it. -/
theorem scrollAndAddrWrites : Obligations.ScrollAndAddrWrites := by
  unfold Obligations.ScrollAndAddrWrites
  refine ⟨fun a v s ha => ?_, fun a s ha => ⟨fun v => ?_, fun hi lo => ?_⟩⟩
  · rw [cpuWrite_scroll_port v s ha, writeScroll_eq]
    rfl
  · dsimp only
    rw [cpuWrite_addr_port v s ha, writeAddr_eq]
    refine ⟨rfl, ?_⟩
    show (if s.ppu.w then wordOf (highByte s.ppu.intlAddr) v else wordOf v (lowByte s.ppu.intlAddr)).toNat = _
    split
    · rw [wordOf_toNat, highByte_toNat]
    · rw [wordOf_toNat, lowByte_toNat]
  · dsimp only
    rw [cpuRead_status_port s rfl, cpuWrite_addr_port hi _ ha, cpuWrite_addr_port lo _ ha, writeAddr_eq, writeAddr_eq]
    refine ⟨?_, rfl⟩
    show (wordOf (highByte (wordOf hi (lowByte s.ppu.intlAddr))) lo).toNat = _
    rw [highByte_wordOf, wordOf_toNat]

/-! ### DATA -/

theorem ppuWrite_ppuByte (a : Word) (v : Byte) (s : State) (c : Nat) :
    (ppuWrite a v s).ppuByte c = if ppuSlot s.params.mirroring a = .ppu c then v else s.ppuByte c := by
  unfold ppuWrite
  cases ppuSlot s.params.mirroring a with
  | ppu d =>
    by_cases hc : d = c
    · simp [hc]
    · simp [hc, putPpuByte_ppuByte_other v s (Ne.symm hc)]
  | nt n => simp

theorem ppuWrite_ntByte (a : Word) (v : Byte) (s : State) (n : Nat) :
    (ppuWrite a v s).ntByte n = if ppuSlot s.params.mirroring a = .nt n then v else s.ntByte n := by
  unfold ppuWrite
  cases ppuSlot s.params.mirroring a with
  | ppu c => simp
  | nt m =>
    by_cases hn : m = n
    · simp [hn]
    · simp [hn, putNtByte_ntByte_other v s (Ne.symm hn)]

/-- The DATA increment in numbers (R336). -/
theorem add_dataIncrement_toNat (s : State) : (s.ppu.intlAddr + dataIncrement s).toNat =
    (s.ppu.intlAddr.toNat + (if s.ppu.ctrl.getLsbD 2 then 32 else 1)) % 0x10000 := by
  rw [BitVec.toNat_add, dataIncrement]
  split <;> rfl

theorem writeData_eq (v : Byte) (s : State) : writeData v s =
    (s.setMem (ppuWrite s.ppu.intlAddr v s).mem).setPpu { s.ppu with intlAddr := s.ppu.intlAddr + dataIncrement s } := by
  unfold writeData ppuWrite
  split <;> rfl

/-- Settles O22: one store into the slot of `intlAddr`, then its step. -/
theorem dataWrite : Obligations.DataWrite := by
  unfold Obligations.DataWrite
  intro a v s ha
  dsimp only
  rw [cpuWrite_data_port v s ha, writeData_eq]
  exact ⟨ppuWrite_ppuByte _ v (logWrite 0x2007#16 s), ppuWrite_ntByte _ v (logWrite 0x2007#16 s),
    fun p => ppuWrite_cpuByte _ v p (logWrite 0x2007#16 s), fun i => ppuWrite_oamByte _ v i (logWrite 0x2007#16 s), rfl,
    add_dataIncrement_toNat s, rfl⟩

@[simp] theorem ppuRead_logRead (a p : Word) (s : State) : ppuRead a (logRead p s) = ppuRead a s := rfl

theorem readData_palette {s : State} {c : Word} (hmirror : ppuMirror s.params.mirroring s.ppu.intlAddr = c)
    (hc : 0x3F00 ≤ c.toNat ∧ c.toNat ≤ 0x3FFF) : readData s =
    (ppuRead c s, s.setPpu { s.ppu with buffer := ppuRead (c - 0x1000#16) s, intlAddr := s.ppu.intlAddr + dataIncrement s }) := by
  subst hmirror
  exact if_pos hc

theorem readData_buffered {s : State} {c : Word} (hmirror : ppuMirror s.params.mirroring s.ppu.intlAddr = c)
    (hc : ¬ (0x3F00 ≤ c.toNat ∧ c.toNat ≤ 0x3FFF)) : readData s =
    (s.ppu.buffer, s.setPpu { s.ppu with buffer := ppuRead s.ppu.intlAddr s, intlAddr := s.ppu.intlAddr + dataIncrement s }) := by
  subst hmirror
  exact if_neg hc

/-- Settles O23: a palette address and any other are the two branches of the read. -/
theorem dataRead : Obligations.DataRead := by
  unfold Obligations.DataRead
  intro a s ha
  dsimp only
  rw [cpuRead_data_port s ha]
  generalize hmirror : ppuMirror s.params.mirroring s.ppu.intlAddr = c
  by_cases hc : 0x3F00 ≤ c.toNat ∧ c.toNat ≤ 0x3FFF
  · have hbelow : c - 0x1000#16 = BitVec.ofNat 16 (c.toNat - 0x1000) := by
      apply BitVec.eq_of_toNat_eq
      rw [BitVec.toNat_sub, BitVec.toNat_ofNat, BitVec.toNat_ofNat]
      omega
    rw [readData_palette (s := logRead 0x2007#16 s) hmirror hc, hbelow, if_pos hc, ppuRead_logRead, ppuRead_logRead]
    exact ⟨rfl, add_dataIncrement_toNat s, rfl, rfl⟩
  · rw [readData_buffered (s := logRead 0x2007#16 s) hmirror hc, if_neg hc, ppuRead_logRead]
    exact ⟨rfl, add_dataIncrement_toNat s, rfl, rfl⟩

/-! ### The controller port -/

/-- One sample: the held mask or the next draw, and the draw counted (R9, R370). -/
theorem sampleButtons_eq (s : State) : sampleButtons s = (s.host.buttons.getD (Config.hostButtons s.host.draws),
    s.setHost { s.host with draws := if s.host.buttons.isNone then s.host.draws + 1 else s.host.draws }) := by
  obtain ⟨cpu, ppu, mem, bus, pad, driver, diag, ⟨checks, checkDraws, buttons, draws⟩, params⟩ := s
  cases buttons <;> rfl

/-- The controller write by the new and the old strobe (R371). -/
theorem writePad_by_strobe (v : Byte) (s : State) :
    let held := s.host.buttons.getD (Config.hostButtons s.host.draws)
    let sampled := v.getLsbD 0 || s.pad.strobe
    writePad v s = (s.setPad { latch := if sampled then held else s.pad.latch
                               cursor := if v.getLsbD 0 then 0 else s.pad.cursor
                               strobe := v.getLsbD 0 }).setHost
      { s.host with draws := if sampled && s.host.buttons.isNone then s.host.draws + 1 else s.host.draws } := by
  simp only [writePad, sampleButtons_eq]
  cases v.getLsbD 0 with
  | true => rfl
  | false => cases s.pad.strobe <;> rfl

/-- The controller read by the strobe (R372). -/
theorem readPad_by_strobe (s : State) :
    let held := s.host.buttons.getD (Config.hostButtons s.host.draws)
    let shown := if s.pad.strobe then held.getLsbD 0 else if s.pad.cursor < 8 then s.pad.latch.getLsbD s.pad.cursor else true
    readPad s = (if shown then 0x41#8 else 0x40#8,
      (s.setPad { latch := if s.pad.strobe then held else s.pad.latch
                  cursor := if s.pad.strobe then 0 else if s.pad.cursor < 8 then s.pad.cursor + 1 else s.pad.cursor
                  strobe := s.pad.strobe }).setHost
        { s.host with draws := if s.pad.strobe && s.host.buttons.isNone then s.host.draws + 1 else s.host.draws }) := by
  have hbyte (b : Bool) : 0x40#8 ||| (if b then 1#8 else 0#8) = if b then 0x41#8 else 0x40#8 := by cases b <;> rfl
  obtain ⟨cpu, ppu, mem, bus, ⟨latch, cursor, strobe⟩, driver, diag, host, params⟩ := s
  simp only [readPad, padBit, sampleButtons_eq, hbyte]
  cases strobe with
  | true => rfl
  | false => by_cases hc : cursor < 8 <;> simp only [hc] <;> rfl

/-- Settles O25: the write by the two strobes, the read by the strobe. -/
theorem controllerPort : Obligations.ControllerPort := by
  unfold Obligations.ControllerPort
  refine ⟨fun v s => ?_, fun s => ?_⟩
  · dsimp only
    rw [cpuWrite_controller, writePad_by_strobe]
    exact ⟨rfl, rfl⟩
  · dsimp only
    rw [cpuRead_controller, readPad_by_strobe]
    exact ⟨rfl, rfl, rfl⟩

/-- From any cursor the `k`-th read shows the `k`-th bit above it, and ones past the eighth. -/
theorem readPadMany_getElem? {n k : Nat} {s : State} (hs : s.pad.strobe = false) (hk : k < n) : (readPadMany n s)[k]? =
    some (if s.pad.cursor + k < 8 && !(s.pad.latch.getLsbD (s.pad.cursor + k)) then 0x40#8 else 0x41#8) := by
  induction n generalizing k s with
  | zero => exact absurd hk (Nat.not_lt_zero k)
  | succ n ih =>
    obtain ⟨-, hread⟩ := controllerPort
    obtain ⟨hbyte, hpad, -⟩ := hread s
    simp only [hs, Bool.false_eq_true, if_false] at hbyte hpad
    cases k with
    | zero =>
      rw [readPadMany, List.getElem?_cons_zero, hbyte, Nat.add_zero]
      by_cases hc : s.pad.cursor < 8
      · cases hbit : s.pad.latch.getLsbD s.pad.cursor <;> simp [hc]
      · simp [hc]
    | succ k =>
      rw [readPadMany, List.getElem?_cons_succ, ih (by rw [hpad]) (Nat.lt_of_succ_lt_succ hk), hpad]
      by_cases hc : s.pad.cursor < 8
      · rw [if_pos hc, Nat.add_right_comm, Nat.add_assoc]
      · have hpast : ¬ s.pad.cursor + k < 8 := by omega
        have hpast' : ¬ s.pad.cursor + (k + 1) < 8 := by omega
        simp [hc, hpast, hpast']

/-- Settles O26: the rewound cursor is at bit 0. -/
theorem controllerShiftsOut : Obligations.ControllerShiftsOut := by
  unfold Obligations.ControllerShiftsOut
  intro n k s hs hc hk
  rw [readPadMany_getElem? hs hk, hc, Nat.zero_add]

end Sys2Proof.Machine
end

section
/-!
PROOFS: OAM-DMA (60_exceptions.md R350 to R352). What every bus read keeps the whole copy keeps; from a page of plain memory each
read is its byte and its log entry, so the copy is an induction over the indices.
-/
namespace Sys2Proof.Machine

/-! ### From any page -/

/-- One copy of OAM-DMA: a full bus read, then the store (R350). -/
def oamDmaCopy (page : Byte) (t : State) (i : Nat) : State :=
  putOamByte i (cpuRead (BitVec.ofNat 16 (256 * page.toNat + i)) t).1 (cpuRead (BitVec.ofNat 16 (256 * page.toNat + i)) t).2

theorem oamDmaFrom_succ (page : Byte) (n i : Nat) (s : State) :
    oamDmaFrom page (n + 1) i s = oamDmaFrom page n (i + 1) (oamDmaCopy page s i) := by
  rw [oamDmaFrom, wordOf_page_add]
  rfl

theorem oamDmaFrom_eq_foldl (page : Byte) (n i : Nat) (s : State) :
    oamDmaFrom page n i s = (List.range' i n).foldl (oamDmaCopy page) s := by
  induction n generalizing i s with
  | zero => rfl
  | succ n ih => rw [oamDmaFrom_succ, ih, List.range'_succ, List.foldl_cons]

theorem oamDmaFrom_ppuByte (page : Byte) (n i : Nat) (s : State) (c : Nat) : (oamDmaFrom page n i s).ppuByte c = s.ppuByte c :=
  oamDmaFrom_induct (P := fun t => t.ppuByte c = s.ppuByte c) (fun a t h => (cpuRead_ppuByte a t c).trans h) (fun _ _ _ h => h)
    page n i s rfl

theorem oamDmaFrom_ntByte (page : Byte) (n i : Nat) (s : State) (c : Nat) : (oamDmaFrom page n i s).ntByte c = s.ntByte c :=
  oamDmaFrom_induct (P := fun t => t.ntByte c = s.ntByte c) (fun a t h => (cpuRead_ntByte a t c).trans h) (fun _ _ _ h => h)
    page n i s rfl

theorem oamDmaFrom_oamaddr (page : Byte) (n i : Nat) (s : State) : (oamDmaFrom page n i s).ppu.oamaddr = s.ppu.oamaddr :=
  oamDmaFrom_induct (P := fun t => t.ppu.oamaddr = s.ppu.oamaddr) (fun a t h => by rwa [cpuRead_ppu]) (fun _ _ _ h => h)
    page n i s rfl

/-- The copies from index `i` on reach indices `i` to `i + n - 1`. -/
theorem oamDmaFrom_oamByte_other {page : Byte} {n i j : Nat} (s : State) (hj : j < i ∨ i + n ≤ j) :
    (oamDmaFrom page n i s).oamByte j = s.oamByte j := by
  induction n generalizing i s with
  | zero => rfl
  | succ n ih =>
    have hne : j ≠ i := by omega
    rw [oamDmaFrom, ih _ (by omega), putOamByte_oamByte_other _ _ hne, cpuRead_oamByte]

/-! ### From a page of plain memory -/

/-- No read of the page is answered by a hook (20_memory.md R73). -/
def PlainPage (page : Byte) : Prop := ∀ i < 256, readHooked (cpuMirror (BitVec.ofNat 16 (256 * page.toNat + i))) = false

/-- The hooked pages are those of the PPU registers and their mirrors, 0x20 to 0x3F, and that of the controller port, 0x40. -/
theorem plainPage_of_range {page : Byte} (h : page.toNat < 0x20 ∨ 0x40 < page.toNat) : PlainPage page := by
  intro i hi
  have haddr : (BitVec.ofNat 16 (256 * page.toNat + i)).toNat = 256 * page.toNat + i := by
    rw [BitVec.toNat_ofNat]
    omega
  rw [← Bool.not_eq_true, readHooked_iff, cpuMirror_toNat, haddr]
  simp only [List.mem_cons, List.not_mem_nil, or_false]
  split
  · omega
  · split <;> omega

theorem oamDmaCopy_of_plainPage {page : Byte} (h : PlainPage page) {i : Nat} (hi : i < 256) (s : State) : oamDmaCopy page s i =
    putOamByte i (s.cpuByte (cpuMirror (BitVec.ofNat 16 (256 * page.toNat + i))).toNat)
      (logRead (cpuMirror (BitVec.ofNat 16 (256 * page.toNat + i))) s) := by
  rw [oamDmaCopy, cpuRead_plain s (h i hi)]

theorem oamDmaFrom_oamByte_same {page : Byte} (h : PlainPage page) {n i j : Nat} (hn : i + n ≤ 256) (hj : i ≤ j ∧ j < i + n)
    (s : State) : (oamDmaFrom page n i s).oamByte j = s.cpuByte (cpuMirror (BitVec.ofNat 16 (256 * page.toNat + j))).toNat := by
  induction n generalizing i s with
  | zero => omega
  | succ n ih =>
    rw [oamDmaFrom_succ, oamDmaCopy_of_plainPage h (by omega)]
    by_cases hij : j = i
    · subst hij
      rw [oamDmaFrom_oamByte_other _ (.inl (Nat.lt_succ_self j)), putOamByte_oamByte_same]
    · rw [ih (by omega) (by omega)]
      rfl

/-- A copy from plain memory changes OAM and the log alone. -/
theorem oamDmaFrom_frame {page : Byte} (h : PlainPage page) {n i : Nat} (hn : i + n ≤ 256) (s : State) :
    oamDmaFrom page n i s = (s.setMem (oamDmaFrom page n i s).mem).setBus (oamDmaFrom page n i s).bus := by
  induction n generalizing i s with
  | zero => rfl
  | succ n ih =>
    rw [oamDmaFrom_succ, oamDmaCopy_of_plainPage h (by omega), ih (by omega)]
    rfl

/-- Settles O24 (`oamDma` is the model's own name): the copy as a fold, what every bus read keeps, and the bytes from a page that no hook answers. -/
theorem oamDma_copiesPage : Obligations.OamDma := by
  unfold Obligations.OamDma
  refine ⟨fun v s => ?_, fun v s => ?_, fun v s hv => ?_⟩ <;> dsimp only
  · rw [cpuWrite_dma v s rfl, oamDma, oamDmaFrom_eq_foldl, List.range_eq_range']
    rfl
  · obtain ⟨hcycle, -⟩ := cpuWrite_timing 0x4014#16 v s
    refine ⟨?_, cpuWrite_cpu _ v s, hcycle, ?_⟩ <;> rw [cpuWrite_dma v s rfl]
    · exact oamDmaFrom_oamaddr v 256 0 _
    · rw [oamDma_bus]
  · have hplain := plainPage_of_range hv
    have hbus := oamDma_bus v (logWrite 0x4014#16 s)
    rw [oamDma] at hbus
    rw [cpuWrite_dma v s rfl, oamDma]
    refine ⟨fun i hi => oamDmaFrom_oamByte_same hplain (by decide) (by omega) _,
      fun i hi => oamDmaFrom_oamByte_other _ (.inr (by omega)), fun p => oamDmaFrom_cpuByte v 256 0 _ p,
      fun c => oamDmaFrom_ppuByte v 256 0 _ c, fun n => oamDmaFrom_ntByte v 256 0 _ n, ?_⟩
    generalize hcopied : oamDmaFrom v 256 0 (logWrite 0x4014#16 s) = t at hbus ⊢
    have hframe := oamDmaFrom_frame hplain (n := 256) (i := 0) (by decide) (logWrite 0x4014#16 s)
    rw [hcopied, hbus] at hframe
    exact hframe

end Sys2Proof.Machine
end

section
/-!
PROOFS: interrupt entry and illegal opcodes (60_exceptions.md R300, R304), breakpoints and the trace (R380, R381), and what an
instruction leaves to the rest of the iteration, with its cost (70_reset_and_hazards.md R403 to R405).
-/
namespace Sys2Proof.Machine

/-! ### Interrupt entry and illegal opcodes -/

/-- Settles O43: the entry is the shared exception with PC saved; the NMI vector lies in program memory. -/
theorem interruptEntry : Obligations.InterruptEntry := by
  unfold Obligations.InterruptEntry
  exact fun s => ⟨fun vector => rfl, takeException_entry s.cpu.pc (vector := 0xFFFA#16) (by decide) (by decide) 7 s⟩

/-- The fetch of an opcode outside the table ends with the opcode (R300). -/
theorem fetch_illegal {s : State} (h : (cpuRead s.cpu.pc s).1 ∈ illegalOpcodes) :
    fetch s = (.illegal (cpuRead s.cpu.pc s).1, (cpuRead s.cpu.pc s).2) := by
  simp [fetch, (decodeOpcode_eq_none_iff _).2 h]

/-- The report: the event and the mark, one byte skipped, two cycles (R300). -/
theorem reportIllegal_eq (op : Byte) (s : State) : reportIllegal op s = { s with
    cpu := { s.cpu with pc := s.cpu.pc + 1#16, cycles := s.cpu.cycles + 2 }
    diag := { illegalSeen := true, events := s.diag.events ++ [.illegalInstruction s.cpu.pc op] } } := rfl

/-- Settles O5: the report writes the diagnostics, PC and the cycle count, which the opcode fetch has left alone. -/
theorem illegalOpcodeStep : Obligations.IllegalOpcodeStep := by
  unfold Obligations.IllegalOpcodeStep
  intro s t hrun
  dsimp only
  intro hillegal
  have hstep : step s = .next (finishIteration (reportIllegal (cpuRead t.cpu.pc t).1 (cpuRead t.cpu.pc t).2)) := by
    simp only [step, hrun, cpuStep, fetch_illegal hillegal]
  rw [hstep, reportIllegal_eq, cpuRead_cpu, cpuRead_diag]

/-! ### Breakpoints and the trace -/

/-- The whole step by the answer of the check (70_reset_and_hazards.md R400). -/
theorem step_of_hold {s t : State} (h : breakpointGate (sampleDebug s).1 (sampleDebug s).2 = .hold t) : step s = .next t := by
  simp only [step, startIteration, h]

theorem step_of_run {s t : State} (h : breakpointGate (sampleDebug s).1 (sampleDebug s).2 = .run t) :
    step s = cpuStep (trace (sampleDebug s).1.tracing t) := by
  simp only [step, startIteration, h]

/-- Settles O51: the draw by what is listed, the check by the command, `paused` and the breakpoints, the trace by its switch. -/
theorem breakpointsAndTrace : Obligations.BreakpointsAndTrace := by
  unfold Obligations.BreakpointsAndTrace
  refine ⟨fun s => ⟨fun d rest h => ?_, fun h => ?_⟩, fun s => ?_, fun s => ⟨rfl, rfl⟩⟩
  · simp only [sampleDebug, h]; rfl
  · simp only [sampleDebug, h]; rfl
  · have hcpu : (sampleDebug s).2.cpu = s.cpu := by rw [sampleDebug_host]; rfl
    have hdriver : (sampleDebug s).2.driver = s.driver := by rw [sampleDebug_host]; rfl
    refine ⟨fun hnone hp => step_of_hold ?_, fun hnone hp hbreak => step_of_hold ?_, fun hnone hp hbreak => step_of_run ?_,
      fun hsingle => step_of_run ?_, fun hresume => step_of_run ?_⟩
    · simp [breakpointGate, hnone, hdriver, hp]
    · simp [breakpointGate, hnone, hdriver, hcpu, hp, hbreak, State.setDriver]
    · simp [breakpointGate, hnone, hdriver, hcpu, hp, hbreak]
    · simp [breakpointGate, hsingle]
    · simp [breakpointGate, hresume, hdriver, State.setDriver]

/-! ### What an instruction costs and leaves to the driver -/

/-- What is the driver's and the timing's own: an instruction leaves it alone, but for the draws of the buttons. -/
def LeavesDriver (s t : State) : Prop :=
  t.driver = s.driver ∧ t.diag = s.diag ∧ t.params = s.params ∧ SameTiming s.ppu t.ppu ∧ HostStep s.host t.host

/-- Every bus access and register change leaves the driver and the PPU's timing alone. -/
theorem leavesDriver_kept (s : State) : KeptByBus (LeavesDriver s) where
  read a t h := by
    obtain ⟨hdriver, hdiag, hparams, htiming, hhost⟩ := h
    exact ⟨(cpuRead_driver a t).trans hdriver, (cpuRead_diag a t).trans hdiag, (cpuRead_params a t).trans hparams,
      htiming.trans (cpuRead_timing a t), hhost.trans (cpuRead_host a t)⟩
  write a v t h := by
    obtain ⟨hdriver, hdiag, hparams, htiming, hhost⟩ := h
    exact ⟨(cpuWrite_driver a v t).trans hdriver, (cpuWrite_diag a v t).trans hdiag, (cpuWrite_params a v t).trans hparams,
      htiming.trans (cpuWrite_timing a v t), hhost.trans (cpuWrite_host a v t)⟩
  regs _ _ h := h

/-- Cycles charged beyond the base cost at most (R404). -/
def extraBound (s : State) : Nat :=
  match s.params.extraCycles with
  | .baseOnly => 0
  | .nmos => 2

theorem crossExtra_le (penalty crossed : Bool) (s : State) : crossExtra penalty crossed s ≤ extraBound s := by
  unfold crossExtra extraBound
  cases s.params.extraCycles with
  | baseOnly => exact Nat.le_refl 0
  | nmos => cases penalty && crossed <;> decide

theorem branchExtra_le (taken : Bool) (npc target : Word) (s : State) : branchExtra taken npc target s ≤ extraBound s := by
  unfold branchExtra extraBound
  cases s.params.extraCycles with
  | baseOnly => exact Nat.le_refl 0
  | nmos => cases taken <;> cases pageCrossed npc target <;> decide

/-- `c'` counts 2 to 7 cycles more than `c`, and at most `extra` beyond them. -/
def CostWithin (extra : Nat) (c c' : Cpu) : Prop := c.cycles + 2 ≤ c'.cycles ∧ c'.cycles ≤ c.cycles + 7 + extra

/-- Retiring charges the cost of an instruction whose other parts charge none. -/
theorem costWithin_of_eq {extra base more : Nat} {c c' : Cpu} (hbase : 2 ≤ base ∧ base ≤ 7) (hmore : more ≤ extra)
    (h : c'.cycles = c.cycles + (base + more)) : CostWithin extra c c' := by
  unfold CostWithin
  omega

/-- A good shape costs its base and at most the extra cycles. -/
theorem Shape.Good.cost {sh : Shape} (hg : sh.Good) (s : State) : CostWithin (extraBound s) s.cpu (sh.run s).cpu := by
  have hplain {base : Nat} {c : Cpu} (hbase : 2 ≤ base ∧ base ≤ 7) (h : c.cycles = s.cpu.cycles + base) :
      CostWithin (extraBound s) s.cpu c := costWithin_of_eq (more := 0) hbase (Nat.zero_le _) h
  cases sh with
  | register f len base =>
    obtain ⟨hf, hbase⟩ := hg
    exact hplain hbase (congrArg (· + base) (hf s.cpu).1)
  | read f o len base pen =>
    obtain ⟨hf, hbase⟩ := hg
    rw [Shape.run, readClass_eq]
    exact costWithin_of_eq hbase (crossExtra_le _ _ s) (congrArg (· + _) (hf _ s.cpu).1)
  | write value m len base =>
    rw [Shape.run, writeClass_eq]
    exact hplain hg rfl
  | modify f m len base =>
    rw [Shape.run, modifyClass_eq]
    exact hplain hg.2 rfl
  | branch cond b1 => exact costWithin_of_eq (base := 2) (by decide) (branchExtra_le _ _ _ s) rfl
  | jump w base => exact hplain hg rfl
  | jumpThrough w base =>
    refine hplain hg ?_
    rw [Shape.run, Machine.jumpThrough, retire_cpu, resolve_cpu]
  | call w base =>
    refine hplain hg ?_
    rw [Shape.run, pushWord_eq]
    rfl
  | back base =>
    refine hplain hg ?_
    rw [Shape.run, returnToCaller, pullWord_eq]
    rfl
  | exit base =>
    refine hplain hg ?_
    rw [Shape.run, returnFromException, pullWord_eq, pull_eq]
    rfl
  | trap vector base =>
    refine hplain hg ?_
    rw [Shape.run, takeException, retire_cpu, cpuReadPair_cpu, push_pushWord_eq]
    rfl
  | push value base =>
    refine hplain hg ?_
    rw [Shape.run, push_eq]
    rfl
  | pull f base =>
    refine hplain hg.2 ?_
    rw [Shape.run, pullInto, pull_eq]
    exact congrArg (· + base) (hg.1 _ _).1

/-- Settles O55: by the shape of the instruction. -/
theorem instructionsLeaveTheDriver : Obligations.InstructionsLeaveTheDriver := by
  unfold Obligations.InstructionsLeaveTheDriver
  intro i s t hexec
  rw [exec_shape] at hexec
  cases hexec
  have hkept : LeavesDriver s ((Shape.of i).run s) :=
    (leavesDriver_kept s).shapeRun (Shape.of i) ⟨rfl, rfl, rfl, ⟨rfl, rfl, rfl, rfl⟩, .refl _⟩
  obtain ⟨hdriver, hdiag, hparams, ⟨hcycle, hrequest, hframe, hcount⟩, hhost, hdraws⟩ := hkept
  obtain ⟨hlow, hhigh⟩ := (shape_good i).cost s
  exact ⟨hdriver, hdiag, hparams, hcycle, hrequest, hframe, hcount, hhost, hdraws, hlow, hhigh⟩

end Sys2Proof.Machine
end

section
/-!
PROOFS: the frame renderer (60_exceptions.md R360 to R366). Every level of it, from the tile to the frame, depends on PPU space,
OAM, CTRL and the mirroring alone, and each pixel is computed in numbers.
-/
namespace Sys2Proof.Machine

/-! ### What the renderer reads -/

section RendererReads

variable {s t : State} (hbytes : SamePpuSide s t) (hctrl : t.ppu.ctrl = s.ppu.ctrl)
  (hmirror : t.params.mirroring = s.params.mirroring)

include hbytes hmirror in
theorem ppuRead_congr (a : Word) : ppuRead a t = ppuRead a s := by
  obtain ⟨hppu, hnt, -⟩ := hbytes
  simp only [ppuRead, hmirror, hppu, hnt]

include hbytes hmirror in
theorem tilePixel_congr (table : Word) (tile : Byte) (row col : Nat) :
    tilePixel table tile row col t = tilePixel table tile row col s := by
  simp only [tilePixel, ppuRead_congr hbytes hmirror]

include hbytes hctrl hmirror in
theorem backgroundPixel_congr (y x : Nat) : backgroundPixel y x t = backgroundPixel y x s := by
  simp only [backgroundPixel, backgroundIndex, backgroundTable, hctrl, tilePixel_congr hbytes hmirror, ppuRead_congr hbytes hmirror]

include hctrl in
theorem spriteHeight_congr : spriteHeight t = spriteHeight s := by rw [spriteHeight, hctrl, spriteHeight]

include hbytes hctrl hmirror in
theorem spriteIndex_congr (tile : Byte) (row col : Nat) : spriteIndex tile row col t = spriteIndex tile row col s := by
  simp only [spriteIndex, hctrl, tilePixel_congr hbytes hmirror]

include hbytes hctrl hmirror in
theorem spritePixel_congr (n y x : Nat) : spritePixel n y x t = spritePixel n y x s := by
  obtain ⟨-, -, hoam⟩ := id hbytes
  simp only [spritePixel, hoam, spriteHeight_congr hctrl, spriteIndex_congr hbytes hctrl hmirror, ppuRead_congr hbytes hmirror]

include hbytes hctrl hmirror in
theorem drawSprites_congr (k n y x : Nat) (v : Byte) : drawSprites k n y x t v = drawSprites k n y x s v := by
  induction k generalizing n v with
  | zero => rfl
  | succ k ih => rw [drawSprites, ih, spritePixel_congr hbytes hctrl hmirror, drawSprites]

end RendererReads

/-- Settles O53: every pixel is drawn from what the two machines share. -/
theorem rendererInputs : Obligations.RendererInputs := by
  unfold Obligations.RendererInputs
  intro s t hbytes hctrl hmirror
  simp only [render, framePixel, backgroundPixel_congr hbytes hctrl hmirror, drawSprites_congr hbytes hctrl hmirror]

/-! ### The frame by its pixels -/

theorem frameShape_render (s : State) : FrameShape (render s) := by
  refine ⟨by rw [render, List.length_map, List.length_range], fun row hrow => ?_⟩
  obtain ⟨y, -, rfl⟩ := List.mem_map.1 hrow
  rw [List.length_map, List.length_range]

theorem render_getElem? (s : State) {y x : Nat} (hy : y < 240) (hx : x < 256) :
    ((render s)[y]?.getD [])[x]? = some (framePixel y x s) := by
  simp [render, hy, hx]

/-- Sprites that draw nothing leave the pixel (R363). -/
theorem drawSprites_of_none {k n y x : Nat} {s : State} (v : Byte) (h : ∀ m, n ≤ m → m < n + k → spritePixel m y x s = none) :
    drawSprites k n y x s v = v := by
  induction k generalizing n with
  | zero => rfl
  | succ k ih =>
    rw [drawSprites, h n (Nat.le_refl n) (by omega), Option.getD_none]
    exact ih fun m hm hlt => h m (by omega) (by omega)

/-- The last sprite that draws at a pixel is the one that shows (R363). -/
theorem drawSprites_of_last {k n y x : Nat} {s : State} {m : Nat} {w : Byte} (v : Byte) (hm : n ≤ m ∧ m < n + k)
    (hdraw : spritePixel m y x s = some w) (hlast : ∀ j, m < j → j < n + k → spritePixel j y x s = none) :
    drawSprites k n y x s v = w := by
  induction k generalizing n v with
  | zero => omega
  | succ k ih =>
    rw [drawSprites]
    by_cases hnm : n = m
    · subst hnm
      rw [hdraw, Option.getD_some]
      exact drawSprites_of_none w fun j hj hlt => hlast j hj (by omega)
    · exact ih _ (by omega) fun j hj hlt => hlast j hj (by omega)

/-! ### A pixel in numbers -/

/-- `TilePixel` with the table, the tile and the row as numbers (R362). -/
def tileIndex (s : State) (table tile row col : Nat) : Nat :=
  ((ppuRead (BitVec.ofNat 16 (table + 16 * tile + row)) s).getLsbD (7 - col)).toNat +
    2 * ((ppuRead (BitVec.ofNat 16 (table + 16 * tile + row + 8)) s).getLsbD (7 - col)).toNat

theorem tilePixel_eq (table row col : Nat) (tile : Byte) (s : State) :
    tilePixel (BitVec.ofNat 16 table) tile row col s = tileIndex s table tile.toNat row col := by
  have hbase : BitVec.ofNat 16 table + 16#16 * tile.setWidth 16 + BitVec.ofNat 16 row =
      BitVec.ofNat 16 (table + 16 * tile.toNat + row) := by
    rw [BitVec.ofNat_add, BitVec.ofNat_add, BitVec.ofNat_mul, BitVec.ofNat_toNat]
  simp only [tilePixel, tileIndex, hbase, BitVec.ofNat_add (_ + _ + row) 8]

/-- A choice of pattern table, as a number. -/
theorem ite_table (p : Prop) [Decidable p] :
    (if p then 0x1000#16 else 0x0000#16) = BitVec.ofNat 16 (if p then 0x1000 else 0) := by
  split <;> rfl

/-- Bit 0 of a byte is its parity. -/
theorem getLsbD_zero_iff (v : Byte) : v.getLsbD 0 = true ↔ v.toNat % 2 = 1 := by
  rw [BitVec.getLsbD, Nat.testBit_zero, decide_eq_true_eq]

/-- The tile of a line of a 16-line sprite (R363). -/
theorem tallTile_toNat (v : Byte) {row : Nat} (hrow : row < 16) :
    ((v &&& 0xFE#8) + BitVec.ofNat 8 (row / 8)).toNat = v.toNat / 2 * 2 + row / 8 := by
  have heven : (v &&& 0xFE#8).toNat = v.toNat / 2 * 2 := by
    rw [show (0xFE#8 : Byte) = BitVec.allOnes 8 <<< 1 from rfl, ← BitVec.shiftLeft_ushiftRight, BitVec.toNat_shiftLeft,
      BitVec.toNat_ushiftRight, Nat.shiftLeft_eq, Nat.shiftRight_eq_div_pow]
    omega
  rw [BitVec.toNat_add, heven, BitVec.toNat_ofNat]
  omega

/-- The background's colour index (R361). -/
theorem backgroundIndex_eq (y x : Nat) (s : State) : backgroundIndex y x s =
    tileIndex s (if s.ppu.ctrl.getLsbD 4 then 0x1000 else 0)
      (ppuRead (BitVec.ofNat 16 (0x2000 + 32 * (y / 8) + x / 8)) s).toNat (y % 8) (x % 8) := by
  rw [backgroundIndex, backgroundTable, ite_table, tilePixel_eq, Nat.add_assoc 0x2000, BitVec.ofNat_add 0x2000]

/-- A sprite's colour index, by its height (R363). -/
theorem spriteIndex_eq (tile : Byte) {row : Nat} (hrow : row < 16) (col : Nat) (s : State) : spriteIndex tile row col s =
    if s.ppu.ctrl.getLsbD 5 then
      tileIndex s (if tile.toNat % 2 = 1 then 0x1000 else 0) (tile.toNat / 2 * 2 + row / 8) (row % 8) col
    else tileIndex s (if s.ppu.ctrl.getLsbD 3 then 0x1000 else 0) tile.toNat row col := by
  simp only [spriteIndex, ite_table, tilePixel_eq, tallTile_toNat tile hrow, getLsbD_zero_iff]

/-- What a sprite draws: nothing where it does not cover the pixel or its colour index is 0 (R363, R364). -/
theorem spritePixel_eq (n y x : Nat) (s : State) :
    let top := (s.oamByte (4 * n)).toNat
    let left := (s.oamByte (4 * n + 3)).toNat
    let i := spriteIndex (s.oamByte (4 * n + 1)) (y - top) (x - left) s
    spritePixel n y x s = if top ≤ y ∧ y < top + spriteHeight s ∧ left ≤ x ∧ x < left + 8 ∧ i ≠ 0 then
      some (ppuRead (BitVec.ofNat 16 (0x3F10 + 4 * ((s.oamByte (4 * n + 2)).toNat % 4) + i)) s) else none := by
  intro top left i
  have haddr (k : Nat) : 0x3F10#16 + BitVec.ofNat 16 (k + i) = BitVec.ofNat 16 (0x3F10 + k + i) := by
    rw [Nat.add_assoc, BitVec.ofNat_add 0x3F10]
  rw [spritePixel]
  by_cases hcover : top ≤ y ∧ y < top + spriteHeight s ∧ left ≤ x ∧ x < left + 8
  · obtain ⟨habove, hbelow, hbefore, hafter⟩ := hcover
    rw [if_pos ⟨habove, hbelow, hbefore, hafter⟩]
    by_cases hi : i = 0
    · rw [if_pos hi, if_neg fun ⟨_, _, _, _, hne⟩ => hne hi]
    · rw [if_neg hi, if_pos ⟨habove, hbelow, hbefore, hafter, hi⟩, haddr]
  · rw [if_neg hcover, if_neg fun ⟨habove, hbelow, hbefore, hafter, _⟩ => hcover ⟨habove, hbelow, hbefore, hafter⟩]

/-- Settles O52: the frame by its pixels, the last sprite that draws over the background, and both in numbers. -/
theorem framePixels : Obligations.FramePixels := by
  unfold Obligations.FramePixels
  refine ⟨fun s => ⟨frameShape_render s, fun y x hy hx => ?_⟩, fun s n y x hn hy hx => ⟨?_, ?_⟩⟩
  · dsimp only
    rw [render_getElem? s hy hx]
    refine ⟨fun hnone => ?_, fun n v hn hdraw hlast => ?_⟩
    · rw [framePixel, drawSprites_of_none _ fun m _ hm => hnone m (by omega)]
    · rw [framePixel, drawSprites_of_last _ (by omega) hdraw fun j hj hlt => hlast j hj (by omega)]
  · rw [backgroundPixel, backgroundIndex_eq, ← BitVec.ofNat_add 0x3F00]
    rfl
  · have hheight : spriteHeight s ≤ 16 := by rw [spriteHeight]; split <;> decide
    dsimp only
    rw [spritePixel_eq]
    generalize (s.oamByte (4 * n)).toNat = top
    by_cases hrow : y - top < 16
    · rw [spriteIndex_eq _ hrow]
      rfl
    · rw [if_neg (by omega), if_neg fun ⟨_, hbelow, _⟩ => absurd hbelow (by split <;> omega)]

end Sys2Proof.Machine
end

section
/-!
PROOFS: PPU ticks, VBlank and the NMI (60_exceptions.md R305, R340 to R343, 70_reset_and_hazards.md R401, R402, R413). Ticks are read
by their counter; `sync` is ticks and the driver's count; the drain then takes the request that those ticks, or an earlier
iteration, left.
-/
namespace Sys2Proof.Machine

/-! ### One tick -/

/-- Settles O47 (`ppuTick` is the model's own name): the three kinds of tick by the counter's new value. -/
theorem ppuTick_byCounter : Obligations.PpuTick := by
  unfold Obligations.PpuTick
  intro s
  dsimp only
  obtain ⟨hc, h⟩ | ⟨hc, h⟩ | ⟨hset, hzero, h⟩ := ppuTick_cases s
  · exact ⟨fun _ => h, fun h0 => absurd (hc.symm.trans h0) (by decide), fun hne => absurd hc hne⟩
  · refine ⟨fun h1 => absurd (hc.symm.trans h1) (by decide), fun _ => ?_, fun _ hne => absurd hc hne⟩
    rw [h, hc]
    rfl
  · exact ⟨fun h1 => absurd h1 hset, fun h0 => absurd h0 hzero, fun _ _ => h⟩

theorem ppuTick_ctrl (s : State) : (ppuTick s).ppu.ctrl = s.ppu.ctrl :=
  ppuTick_induct (P := fun t => t.ppu.ctrl = s.ppu.ctrl) rfl (fun _ _ h => h) (fun _ h => h) (fun _ h => h)

/-- The tick that reaches VBlank raises the request, and no tick clears one (60_exceptions.md R341). -/
theorem ppuTick_nmiRequest (s : State) : (ppuTick s).ppu.nmiRequest =
    (s.ppu.nmiRequest || decide ((s.ppu.cycle + 1) % 89342 = 82181)) := by
  obtain ⟨hc, h⟩ | ⟨hc, h⟩ | ⟨hset, -, h⟩ := ppuTick_cases s <;> rw [h]
  · rw [decide_eq_true hc, Bool.or_true]
    rfl
  · rw [hc]
    exact (Bool.or_false _).symm
  · rw [decide_eq_false hset, Bool.or_false]
    rfl

/-- VBlank after a tick: set at its cycle, cleared at the frame's start, else as before. -/
theorem ppuTick_vblank (s : State) : (ppuTick s).ppu.status.getLsbD 7 =
    if (s.ppu.cycle + 1) % 89342 = 82181 then true
    else if (s.ppu.cycle + 1) % 89342 = 0 then false else s.ppu.status.getLsbD 7 := by
  have hset (v : Byte) : (v ||| 0x80#8).getLsbD 7 = true := by simp
  have hclear (v : Byte) : (v &&& 0x7F#8).getLsbD 7 = false := by simp
  obtain ⟨hc, h⟩ | ⟨hc, h⟩ | ⟨hne, hzero, h⟩ := ppuTick_cases s <;> rw [h]
  · rw [if_pos hc]
    exact hset _
  · rw [if_neg (by rw [hc]; decide), if_pos hc]
    exact hclear _
  · rw [if_neg hne, if_neg hzero]
    rfl

theorem ppuTick_frameCount (s : State) : (ppuTick s).ppu.frameCount =
    s.ppu.frameCount + if (s.ppu.cycle + 1) % 89342 = 0 then 1 else 0 := by
  obtain ⟨hc, h⟩ | ⟨hc, h⟩ | ⟨-, hzero, h⟩ := ppuTick_cases s <;> rw [h]
  · rw [if_neg (by rw [hc]; decide)]
    rfl
  · rw [if_pos hc]
    rfl
  · rw [if_neg hzero]
    rfl

/-! ### Runs of ticks -/

theorem ticks_add (m n : Nat) (s : State) : ticks (m + n) s = ticks n (ticks m s) := by
  induction m generalizing s with
  | zero => rw [Nat.zero_add]; rfl
  | succ m ih => rw [Nat.succ_add, ticks, ih]; rfl

/-- The last of a run of ticks, split off. -/
theorem ticks_succ_last (n : Nat) (s : State) : ticks (n + 1) s = ppuTick (ticks n s) := ticks_add n 1 s

/-- What a tick keeps, any number of them keeps. -/
theorem ticks_induct {P : State → Prop} (ht : ∀ t, P t → P (ppuTick t)) (n : Nat) {s : State} (h : P s) : P (ticks n s) := by
  induction n generalizing s with
  | zero => exact h
  | succ n ih => exact ih (ht s h)

theorem ticks_cycle {s : State} (hs : s.ppu.cycle < 89342) (n : Nat) :
    (ticks n s).ppu.cycle = (s.ppu.cycle + n) % 89342 := by
  induction n with
  | zero => exact (Nat.mod_eq_of_lt hs).symm
  | succ n ih => rw [ticks_succ_last, ppuTick_cycle, ih, Nat.mod_add_mod, Nat.add_assoc]

/-- A request after `n` ticks was pending before them, or one of them reached VBlank. -/
theorem ticks_nmiRequest_iff {s : State} (hs : s.ppu.cycle < 89342) (n : Nat) :
    (ticks n s).ppu.nmiRequest = true ↔ s.ppu.nmiRequest = true ∨
      ∃ k, 1 ≤ k ∧ k ≤ n ∧ (s.ppu.cycle + k) % 89342 = 82181 := by
  induction n with
  | zero => exact ⟨.inl, fun h => h.elim id fun ⟨k, h1, h0, _⟩ => absurd (Nat.le_trans h1 h0) (by decide)⟩
  | succ n ih =>
    rw [ticks_succ_last, ppuTick_nmiRequest, ticks_cycle hs, Nat.mod_add_mod, Bool.or_eq_true, decide_eq_true_eq, ih, or_assoc,
      Nat.add_assoc]
    refine or_congr_right ⟨?_, ?_⟩
    · rintro (⟨k, h1, hk, hv⟩ | hv)
      · exact ⟨k, h1, Nat.le_succ_of_le hk, hv⟩
      · exact ⟨n + 1, Nat.succ_pos n, Nat.le_refl _, hv⟩
    · rintro ⟨k, h1, hk, hv⟩
      obtain hlt | rfl := Nat.lt_or_eq_of_le hk
      · exact .inl ⟨k, h1, Nat.le_of_lt_succ hlt, hv⟩
      · exact .inr hv

/-- From counter 0 the VBlank bit follows the number of ticks, through one frame (R343). -/
theorem ticks_vblank {s : State} (h0 : s.ppu.cycle = 0) (hv : s.ppu.status.getLsbD 7 = false) {n : Nat} (hn : n ≤ 89342) :
    (ticks n s).ppu.status.getLsbD 7 = decide (82181 ≤ n ∧ n < 89342) := by
  induction n with
  | zero => exact hv
  | succ n ih =>
    rw [ticks_succ_last, ppuTick_vblank, ticks_cycle (by rw [h0]; decide), h0, Nat.zero_add, Nat.mod_add_mod, ih (by omega)]
    split
    · exact (decide_eq_true (by omega)).symm
    · split
      · exact (decide_eq_false (by omega)).symm
      · exact decide_eq_decide.2 (by omega)

/-- From counter 0 one frame is counted every 89342 ticks (R342). -/
theorem ticks_frameCount {s : State} (h0 : s.ppu.cycle = 0) (n : Nat) :
    (ticks n s).ppu.frameCount = s.ppu.frameCount + n / 89342 := by
  induction n with
  | zero => rfl
  | succ n ih =>
    rw [ticks_succ_last, ppuTick_frameCount, ticks_cycle (by rw [h0]; decide), h0, Nat.zero_add, Nat.mod_add_mod, ih]
    split <;> omega

/-- Settles O48: each field of the timeline by its law over runs of ticks. -/
theorem vBlankTimeline : Obligations.VBlankTimeline := by
  unfold Obligations.VBlankTimeline
  intro s n h0 hv hn
  have hs : s.ppu.cycle < 89342 := by rw [h0]; decide
  refine ⟨ticks_vblank h0 hv hn, by rw [ticks_cycle hs, h0, Nat.zero_add], ticks_frameCount h0 n, ?_⟩
  rw [Bool.eq_iff_iff, ticks_nmiRequest_iff hs, Bool.or_eq_true, decide_eq_true_eq, h0]
  refine or_congr_right ⟨fun ⟨k, _, hk, hset⟩ => by omega, fun h => ⟨82181, by decide, h, rfl⟩⟩

/-! ### Synchronisation and the drain -/

theorem completeFrame_setDriver (d : Driver) (s : State) : completeFrame (s.setDriver d) = (completeFrame s).setDriver d := by
  have hrender (u : Ppu) : render ((s.setDriver d).setPpu u) = render (s.setPpu u) :=
    rendererInputs _ _ ⟨fun _ => rfl, fun _ => rfl, fun _ => rfl⟩ rfl rfl
  rw [completeFrame, hrender]
  rfl

/-- No tick reads the driver. -/
theorem ppuTick_setDriver (d : Driver) (s : State) : ppuTick (s.setDriver d) = (ppuTick s).setDriver d := by
  have hset (p : Prop) [Decidable p] (t : State) : (if p then setVBlank (t.setDriver d) else t.setDriver d) =
      (if p then setVBlank t else t).setDriver d := by
    split <;> rfl
  have hcounted := hset ((s.ppu.cycle + 1) % 89342 = 82181) (s.setPpu { s.ppu with cycle := (s.ppu.cycle + 1) % 89342 })
  exact rel_ite (r := fun u v : State => u = v.setDriver d)
    ((congrArg completeFrame hcounted).trans (completeFrame_setDriver d _)) hcounted

theorem ticks_setDriver (n : Nat) (d : Driver) (s : State) : ticks n (s.setDriver d) = (ticks n s).setDriver d := by
  induction n generalizing s with
  | zero => rfl
  | succ n ih => rw [ticks, ppuTick_setDriver, ih]; rfl

theorem ticks_driver (n : Nat) (s : State) : (ticks n s).driver = s.driver :=
  ticks_induct (P := fun t => t.driver = s.driver) (fun t h => (ppuTick_driver t).trans h) n rfl

theorem syncTimes_eq (n : Nat) (s : State) : syncTimes n s =
    (ticks (3 * n) s).setDriver { s.driver with cyclesSynced := s.driver.cyclesSynced + n } := by
  induction n generalizing s with
  | zero => rfl
  | succ n ih =>
    have hone : syncOne s = (ticks 3 s).setDriver { s.driver with cyclesSynced := s.driver.cyclesSynced + 1 } := by
      rw [← ticks_driver 3 s]
      rfl
    rw [syncTimes, hone, ih, ticks_setDriver, State.setDriver_setDriver, ← ticks_add, State.setDriver_driver, Nat.add_assoc,
      Nat.add_comm 1 n, Nat.mul_succ, Nat.add_comm 3]

theorem sync_eq {s : State} (h : s.driver.cyclesSynced ≤ s.cpu.cycles) : sync s =
    (ticks (3 * (s.cpu.cycles - s.driver.cyclesSynced)) s).setDriver { s.driver with cyclesSynced := s.cpu.cycles } := by
  rw [sync, syncTimes_eq, Nat.add_sub_cancel' h]

theorem sync_of_le {s : State} (h : s.cpu.cycles ≤ s.driver.cyclesSynced) : sync s = s := by
  rw [sync, Nat.sub_eq_zero_of_le h]
  rfl

theorem drain_of_noRequest {s : State} (h : s.ppu.nmiRequest = false) : drain s = s := by
  simp [drain, h]

theorem drain_of_disabled {s : State} (h : s.ppu.nmiRequest = true) (hctrl : s.ppu.ctrl.getLsbD 7 = false) :
    drain s = sync (s.setPpu { s.ppu with nmiRequest := false }) := by
  simp only [drain, h, State.setPpu_ppu, hctrl]
  rfl

theorem drain_of_enabled {s : State} (h : s.ppu.nmiRequest = true) (hctrl : s.ppu.ctrl.getLsbD 7 = true) :
    drain s = sync (interrupt Config.nmiVector (s.setPpu { s.ppu with nmiRequest := false })) := by
  simp only [drain, h, State.setPpu_ppu, hctrl]
  rfl

/-- Settles O49: `sync` is its ticks and the new count, the drain one case per request and CTRL bit 7. -/
theorem syncAndDrain : Obligations.SyncAndDrain := by
  unfold Obligations.SyncAndDrain
  exact ⟨fun s h => sync_eq h, fun s h => sync_of_le h,
    fun s => ⟨drain_of_noRequest, drain_of_disabled, drain_of_enabled⟩⟩

/-! ### The end of an iteration -/

/-- What the ticks of an iteration leave: registers and memories as before, the counter on, the request if pending or reached. -/
theorem sync_summary {s : State} (h : s.driver.cyclesSynced ≤ s.cpu.cycles) (hcycle : s.ppu.cycle < 89342) :
    (sync s).driver.cyclesSynced = s.cpu.cycles ∧ (sync s).ppu.ctrl = s.ppu.ctrl ∧
    (sync s).ppu.cycle = (s.ppu.cycle + 3 * (s.cpu.cycles - s.driver.cyclesSynced)) % 89342 ∧
    ((sync s).ppu.nmiRequest = true ↔ s.ppu.nmiRequest = true ∨ ∃ n, 1 ≤ n ∧ n ≤ 3 * (s.cpu.cycles - s.driver.cyclesSynced) ∧
      (s.ppu.cycle + n) % 89342 = 82181) := by
  rw [sync_eq h]
  exact ⟨rfl, ticks_induct (P := fun t => t.ppu.ctrl = s.ppu.ctrl) (fun t ht => (ppuTick_ctrl t).trans ht) _ rfl,
    ticks_cycle hcycle _, ticks_nmiRequest_iff hcycle _⟩

/-- The drain without a taken NMI, after a `sync`: no request is left, and only the request changed. -/
theorem drain_of_notTaken {s : State} (hsynced : s.cpu.cycles ≤ s.driver.cyclesSynced)
    (h : ¬ (s.ppu.nmiRequest = true ∧ s.ppu.ctrl.getLsbD 7 = true)) :
    drain s = s.setPpu { s.ppu with nmiRequest := false } := by
  cases hrequest : s.ppu.nmiRequest with
  | false =>
    rw [drain_of_noRequest hrequest, ← hrequest]
    rfl
  | true =>
    rw [drain_of_disabled hrequest (Bool.eq_false_iff.2 fun hctrl => h ⟨hrequest, hctrl⟩)]
    exact sync_of_le hsynced

theorem sync_cpuByte (s : State) (q : Nat) : (sync s).cpuByte q = s.cpuByte q := (SameBytes.of_mem (sync_mem s)).1 q

/-- The registers after the NMI entry (60_exceptions.md R304). -/
def nmiEntryCpu (s : State) : Cpu :=
  { s.cpu with
    sp := s.cpu.sp - 3#8, p := s.cpu.p ||| 0x04#8, pc := wordOf (s.cpuByte 0xFFFB) (s.cpuByte 0xFFFA)
    cycles := s.cpu.cycles + 7 }

theorem interrupt_nmi_cpu (s : State) : (interrupt Config.nmiVector s).cpu = nmiEntryCpu s := by
  rw [interrupt, takeException_eq _ (by decide) (by decide)]
  rfl

/-- The drain with a taken NMI, after a `sync`: the exception entry, and the 21 ticks of its 7 cycles. -/
theorem drain_of_taken {s : State} (hsynced : s.driver.cyclesSynced = s.cpu.cycles) (hcycle : s.ppu.cycle < 89342)
    (hrequest : s.ppu.nmiRequest = true) (hctrl : s.ppu.ctrl.getLsbD 7 = true) :
    ((drain s).cpuByte (stackIndex s 0)).toNat = s.cpu.pc.toNat / 256 ∧
    ((drain s).cpuByte (stackIndex s 1)).toNat = s.cpu.pc.toNat % 256 ∧
    (drain s).cpuByte (stackIndex s 2) = s.cpu.p ||| 0x30#8 ∧
    (drain s).cpu = nmiEntryCpu s ∧
    ((drain s).ppu.nmiRequest = true ↔ ∃ n, 1 ≤ n ∧ n ≤ 21 ∧ (s.ppu.cycle + n) % 89342 = 82181) := by
  set cleared := s.setPpu { s.ppu with nmiRequest := false }
  set entered := interrupt Config.nmiVector cleared
  have hdrain : drain s = sync entered := drain_of_enabled hrequest hctrl
  have hcpu : entered.cpu = nmiEntryCpu s := interrupt_nmi_cpu cleared
  obtain ⟨hhigh, hlow, hstatus, -, -, -, -, ⟨hppu, -, hdriver, -⟩, -⟩ : ExceptionEntry s.cpu.pc 0xFFFA 7 cleared entered :=
    takeException_entry s.cpu.pc (vector := 0xFFFA#16) (by decide) (by decide) 7 cleared
  have hcount : entered.driver.cyclesSynced = s.cpu.cycles := by rw [hdriver]; exact hsynced
  have hcycles : entered.cpu.cycles = s.cpu.cycles + 7 := congrArg Cpu.cycles hcpu
  obtain ⟨-, -, -, hticks⟩ := sync_summary (s := entered) (by omega) (by rw [hppu]; exact hcycle)
  rw [hcount, hcycles, Nat.add_sub_cancel_left, hppu] at hticks
  rw [hdrain, sync_cpuByte, sync_cpuByte, sync_cpuByte, sync_cpu]
  exact ⟨hhigh, hlow, hstatus, hcpu, hticks.trans ⟨fun h => h.resolve_left Bool.false_ne_true, .inr⟩⟩

/-- Settles O50: the ticks leave a request or none; the drain then enters the NMI, whose 7 cycles are 21 ticks, or clears it. -/
theorem nmiLatency : Obligations.NmiLatency := by
  unfold Obligations.NmiLatency
  intro s hsynced hcycle
  obtain ⟨hcount, hctrl, hcounter, hrequest⟩ := sync_summary hsynced hcycle
  refine ⟨fun htaken => ?_, fun hnot => ?_⟩
  · obtain ⟨hpending, henabled⟩ := htaken
    obtain ⟨hhigh, hlow, hstatus, hcpu, hagain⟩ := drain_of_taken (s := sync s) (by rw [sync_cpu, hcount])
      (hcounter ▸ Nat.mod_lt _ (by decide)) (hrequest.2 hpending) (by rwa [hctrl])
    simp only [nmiEntryCpu, stackIndex, sync_cpu, sync_cpuByte, hcounter, Nat.mod_add_mod] at hhigh hlow hstatus hcpu hagain
    exact ⟨hhigh, hlow, hstatus, hcpu, hagain⟩
  · have hdrain : finishIteration s = (sync s).setPpu { (sync s).ppu with nmiRequest := false } := by
      refine drain_of_notTaken (by rw [sync_cpu, hcount]) ?_
      rwa [hrequest, hctrl]
    rw [hdrain]
    exact ⟨sync_cpu s, sync_mem s, rfl⟩

end Sys2Proof.Machine
end

section
/-!
PROOFS: the load of a cartridge image (70_reset_and_hazards.md R406 to R410): which images are accepted, where their bytes end up, and
that bytes after the character data change nothing.
-/
namespace Sys2Proof.Machine

/-! ### Bytes at consecutive addresses -/

theorem listFrom_get?_below (bytes : List Byte) {base a : Nat} (h : a < base) : (listFrom base bytes).get? a = none := by
  induction bytes generalizing base with
  | nil => rfl
  | cons b rest ih => rw [listFrom, Memory.get?, if_neg (by omega), ih (by omega)]

theorem listFrom_get?_add (bytes : List Byte) (base i : Nat) : (listFrom base bytes).get? (base + i) = bytes[i]? := by
  induction bytes generalizing base i with
  | nil => rfl
  | cons b rest ih =>
    rw [listFrom, Memory.get?]
    cases i with
    | zero => exact if_pos rfl
    | succ i =>
      rw [if_neg (by omega), List.getElem?_cons_succ, ← ih (base + 1) i]
      exact congrArg _ (by omega)

/-! ### Which images are accepted -/

theorem imageWellFormed_iff (image : List Byte) : imageWellFormed image = true ↔
    (16 ≤ image.length ∧ 16 + trainerLength image + 16384 * prgBanks image + 8192 * chrBanks image ≤ image.length) ∧
    (prgBanks image = 1 ∨ prgBanks image = 2) ∧ (chrBanks image = 0 ∨ chrBanks image = 1) := by
  simp only [imageWellFormed, imageLongEnough, imageBanksFixed, Bool.and_eq_true, Bool.or_eq_true, decide_eq_true_eq, beq_iff_eq]

theorem loadCartridge_refused_iff (image : List Byte) :
    loadCartridge image = .fault .romFormatError ↔ ¬ imageWellFormed image = true := by
  unfold loadCartridge
  split <;> simp [*]

/-- The registers and records of an accepted load (R406, R410); `loadCartridge_next` has the memories and the other devices. -/
theorem loadCartridge_of_wellFormed {image : List Byte} (h : imageWellFormed image = true) :
    ∃ t, loadCartridge image = .next t ∧ t.params.mirroring = imageMirroring image ∧
      t.cpu = { State.reset.cpu with pc := wordOf (t.cpuByte 0xFFFD) (t.cpuByte 0xFFFC) } ∧ t.bus = State.reset.bus ∧
      t.diag = State.reset.diag :=
  ⟨_, if_pos h, rfl, rfl, rfl, rfl⟩

/-! ### Where the bytes of an accepted image stand -/

theorem imagePrg_getElem? (image : List Byte) {i : Nat} (hi : i < 16384 * prgBanks image) :
    (imagePrg image)[i]? = image[16 + trainerLength image + i]? := by
  rw [imagePrg, List.getElem?_take_of_lt hi, List.getElem?_drop]

theorem imagePrg_length {image : List Byte} (h : imageWellFormed image = true) :
    (imagePrg image).length = 16384 * prgBanks image := by
  obtain ⟨⟨-, hlong⟩, -⟩ := (imageWellFormed_iff image).1 h
  rw [imagePrg, List.length_take, List.length_drop]
  omega

/-- The window opens with the program data (R407). -/
theorem prgWindow_getElem? {image : List Byte} (h : imageWellFormed image = true) {i : Nat} (hi : i < 16384 * prgBanks image) :
    (prgWindow image)[i]? = image[16 + trainerLength image + i]? := by
  rw [← imagePrg_getElem? image hi, prgWindow]
  split
  · exact List.getElem?_append_left (by rwa [imagePrg_length h])
  · rfl

/-- A single bank appears in the upper half as well (R407). -/
theorem prgWindow_getElem?_upper {image : List Byte} (h : imageWellFormed image = true) (hone : prgBanks image = 1) {i : Nat}
    (hi : i < 16384) : (prgWindow image)[16384 + i]? = image[16 + trainerLength image + i]? := by
  have hlength : (imagePrg image).length = 16384 := by rw [imagePrg_length h, hone]
  rw [← imagePrg_getElem? image (by rwa [hone]), prgWindow, if_pos hone, List.getElem?_append_right (by omega), hlength,
    Nat.add_sub_cancel_left]

theorem imageChr_getElem? (image : List Byte) {i : Nat} (hi : i < 8192 * chrBanks image) :
    (imageChr image)[i]? = image[16 + trainerLength image + 16384 * prgBanks image + i]? := by
  rw [imageChr, List.getElem?_take_of_lt hi, List.getElem?_drop]

/-- A listed byte of the image is what the array then holds, whatever its reset content. -/
theorem readOr_listFrom_of_getElem? {bytes image : List Byte} {base i j : Nat} (f : Nat → Byte) (hj : j < image.length)
    (h : bytes[i]? = image[j]?) : (listFrom base bytes).readOr f (base + i) = image.getD j 0#8 := by
  rw [Memory.readOr, listFrom_get?_add, h, List.getD_eq_getElem?_getD, List.getElem?_eq_getElem hj]
  rfl

/-- Settles O7: the accepted image's bytes by their place in the window and the pattern tables, everything else as after reset. -/
theorem loadPlacesTheCartridge : Obligations.LoadPlacesTheCartridge := by
  unfold Obligations.LoadPlacesTheCartridge
  intro image prg chr start hprg hchr hlong
  have hwf : imageWellFormed image = true := (imageWellFormed_iff image).2
    ⟨⟨Nat.le_trans (by omega) hlong, hlong⟩, hprg, hchr⟩
  obtain ⟨t, hload, hmirroring, hcpu, hbus, hdiag⟩ := loadCartridge_of_wellFormed hwf
  obtain ⟨-, hmem, -, hppu, hpad, hdriver⟩ := loadCartridge_next hload
  have hcpuByte (p : Nat) : t.cpuByte p = (listFrom 0x8000 (prgWindow image)).readOr Config.cpuMemInit p := by
    rw [State.cpuByte, hmem]
  have hppuByte (c : Nat) : t.ppuByte c = (listFrom 0 (imageChr image)).readOr Config.ppuMemInit (0 + c) := by
    rw [State.ppuByte, hmem, Nat.zero_add]
  refine ⟨t, hload, hmirroring, fun i hi => ?_, fun hone i hi => ?_, fun p hp => ?_, fun i hi => ?_, fun c hc => ?_,
    fun n => ?_, fun i => ?_, hcpu, hppu, hbus, hpad, hdriver, hdiag⟩
  · rw [hcpuByte]
    exact readOr_listFrom_of_getElem? _ (by omega) (prgWindow_getElem? hwf hi)
  · rw [hcpuByte, show 0xC000 + i = 0x8000 + (16384 + i) by omega]
    exact readOr_listFrom_of_getElem? _ (by omega) (prgWindow_getElem?_upper hwf hone hi)
  · rw [hcpuByte, Memory.readOr, listFrom_get?_below _ hp]
    rfl
  · rw [hppuByte]
    exact readOr_listFrom_of_getElem? _ (by omega) (imageChr_getElem? image hi)
  · have hend : (imageChr image).length ≤ c := Nat.le_trans (List.length_take_le _ _) hc
    rw [hppuByte, Memory.readOr, listFrom_get?_add, List.getElem?_eq_none hend, Nat.zero_add]
    rfl
  · rw [State.ntByte, hmem]
    rfl
  · rw [State.oamByte, hmem]
    rfl

/-! ### Refusal, and bytes after the character data -/

theorem trainerLength_eq (image : List Byte) :
    trainerLength image = 512 * (if (imageByte image 6).getLsbD 2 then 1 else 0) := by
  unfold trainerLength
  split <;> rfl

theorem imageByte_append {image : List Byte} (extra : List Byte) {n : Nat} (hn : n < image.length) :
    imageByte (image ++ extra) n = imageByte image n := List.getD_append _ _ _ _ hn

/-- A part of a list that ends inside it is the same part of the longer list. -/
theorem take_drop_append {l : List Byte} (r : List Byte) {a n : Nat} (h : a + n ≤ l.length) :
    ((l ++ r).drop a).take n = (l.drop a).take n := by
  rw [List.drop_append_of_le_length (by omega), List.take_append_of_le_length (by rw [List.length_drop]; omega)]

/-- Every part that the load takes from an accepted image is the same with bytes after it (R409). -/
theorem loadCartridge_append {image : List Byte} (extra : List Byte) (h : imageWellFormed image = true) :
    loadCartridge (image ++ extra) = loadCartridge image := by
  obtain ⟨⟨hheader, hlong⟩, hbanks⟩ := (imageWellFormed_iff image).1 h
  have hprgBanks : prgBanks (image ++ extra) = prgBanks image := congrArg BitVec.toNat (imageByte_append extra (by omega))
  have hchrBanks : chrBanks (image ++ extra) = chrBanks image := congrArg BitVec.toNat (imageByte_append extra (by omega))
  have hflags : imageByte (image ++ extra) 6 = imageByte image 6 := imageByte_append extra (by omega)
  have htrainer : trainerLength (image ++ extra) = trainerLength image := by rw [trainerLength, hflags, trainerLength]
  have hmirroring : imageMirroring (image ++ extra) = imageMirroring image := by rw [imageMirroring, hflags, imageMirroring]
  have hprg : imagePrg (image ++ extra) = imagePrg image := by
    rw [imagePrg, htrainer, hprgBanks, take_drop_append _ (by omega), imagePrg]
  have hchr : imageChr (image ++ extra) = imageChr image := by
    rw [imageChr, htrainer, hprgBanks, hchrBanks, take_drop_append _ (by omega), imageChr]
  have hwindow : prgWindow (image ++ extra) = prgWindow image := by rw [prgWindow, hprgBanks, hprg, prgWindow]
  have hwf : imageWellFormed (image ++ extra) = true := by
    rw [imageWellFormed_iff, htrainer, hprgBanks, hchrBanks, List.length_append]
    exact ⟨by omega, hbanks⟩
  simp only [loadCartridge, h, hwf, hmirroring, hwindow, hchr]

/-- Settles O8: refusal is the negation of the acceptance test; an accepted image loads alike with bytes after it. -/
theorem loadRefusal : Obligations.LoadRefusal := by
  unfold Obligations.LoadRefusal
  intro image extra prg chr trainer
  refine ⟨?_, fun h => loadCartridge_append extra ?_⟩
  · rw [loadCartridge_refused_iff, imageWellFormed_iff, trainerLength_eq]
    change ¬ ((_ ∧ 16 + 512 * trainer + 16384 * prg + 8192 * chr ≤ _) ∧ (prg = 1 ∨ prg = 2) ∧ (chr = 0 ∨ chr = 1)) ↔ _
    omega
  · exact Classical.not_not.1 ((loadCartridge_refused_iff image).not.1 h)

end Sys2Proof.Machine
end

section
/-!
PROOFS: the clock ratio of an iteration boundary (70_reset_and_hazards.md R401, R403, R405). The PPU counter and the frame count are
quotient and remainder of one count of ticks; only `sync` moves them, three ticks for each CPU cycle it converts.
-/
namespace Sys2Proof.Machine

/-! ### The PPU after a count of ticks -/

/-- The counter and the frame count as `k` ticks from reset leave them (60_exceptions.md R340, R342). -/
def TickedTo (k : Nat) (u : Ppu) : Prop := u.cycle = k % Config.frameLength ∧ u.frameCount = k / Config.frameLength

theorem TickedTo.of_timing {k : Nat} {u v : Ppu} (h : TickedTo k u) (ht : SameTiming u v) : TickedTo k v := by
  obtain ⟨hcycle, hcount⟩ := h
  obtain ⟨hcycle', -, -, hcount'⟩ := ht
  exact ⟨hcycle'.trans hcycle, hcount'.trans hcount⟩

theorem TickedTo.ppuTick {k : Nat} {s : State} (h : TickedTo k s.ppu) : TickedTo (k + 1) (ppuTick s).ppu := by
  obtain ⟨hcycle, hcount⟩ := h
  refine ⟨by rw [ppuTick_cycle, hcycle, Nat.mod_add_mod], ?_⟩
  simp only [ppuTick_frameCount, hcount, hcycle, Nat.mod_add_mod, Nat.succ_div, Nat.dvd_iff_mod_eq_zero]

theorem TickedTo.ticks {k : Nat} {s : State} (h : TickedTo k s.ppu) (n : Nat) : TickedTo (k + n) (ticks n s).ppu := by
  induction n with
  | zero => exact h
  | succ n ih =>
    rw [ticks_succ_last]
    exact ih.ppuTick

/-! ### The driver's count and the PPU -/

/-- `n` CPU cycles have been converted, at three ticks a cycle. -/
def ConvertedTo (n : Nat) (s : State) : Prop := s.driver.cyclesSynced = n ∧ TickedTo (3 * n) s.ppu

/-- The ratio invariant: exactly the cycles that the CPU counts have been converted. -/
theorem clockRatio_iff (s : State) : ClockRatio s ↔ ConvertedTo s.cpu.cycles s := Iff.rfl

theorem ConvertedTo.of_timing {n : Nat} {s t : State} (h : ConvertedTo n s) (hdriver : t.driver = s.driver)
    (ht : SameTiming s.ppu t.ppu) : ConvertedTo n t := by
  obtain ⟨hsynced, hticked⟩ := h
  exact ⟨by rw [hdriver, hsynced], hticked.of_timing ht⟩

/-- No access converts a cycle: whole instructions run before `sync` does (R403). -/
theorem convertedTo_kept (n : Nat) : KeptByBus (ConvertedTo n) where
  read a s h := h.of_timing (cpuRead_driver a s) (cpuRead_timing a s)
  write a v s h := h.of_timing (cpuWrite_driver a v s) (cpuWrite_timing a v s)
  regs _ _ h := h

theorem ConvertedTo.interrupt {n : Nat} {s : State} (h : ConvertedTo n s) (vector : Word) : ConvertedTo n (interrupt vector s) :=
  (convertedTo_kept n).takeException _ _ _ h

/-- `sync` converts every cycle that is owed (R401). -/
theorem ConvertedTo.sync {n : Nat} {s : State} (h : ConvertedTo n s) (hn : n ≤ s.cpu.cycles) : ClockRatio (sync s) := by
  obtain ⟨rfl, hticked⟩ := h
  rw [clockRatio_iff, sync_cpu, sync_eq hn]
  have hcount : 3 * s.driver.cyclesSynced + 3 * (s.cpu.cycles - s.driver.cyclesSynced) = 3 * s.cpu.cycles := by omega
  exact ⟨rfl, hcount ▸ hticked.ticks _⟩

/-! ### The step -/

/-- The cycles of an NMI are converted by the drain that takes it (R402). -/
theorem ClockRatio.drain {s : State} (h : ClockRatio s) : ClockRatio (drain s) := by
  rw [clockRatio_iff] at h
  have hcleared : ConvertedTo s.cpu.cycles (s.setPpu { s.ppu with nmiRequest := false }) := h
  cases hrequest : s.ppu.nmiRequest with
  | false => rwa [drain_of_noRequest hrequest]
  | true =>
    cases hctrl : s.ppu.ctrl.getLsbD 7 with
    | false =>
      rw [drain_of_disabled hrequest hctrl]
      exact hcleared.sync (Nat.le_refl _)
    | true =>
      rw [drain_of_enabled hrequest hctrl]
      refine (hcleared.interrupt Config.nmiVector).sync ?_
      rw [interrupt_nmi_cpu]
      exact Nat.le_add_right _ _

theorem ConvertedTo.finishIteration {n : Nat} {s : State} (h : ConvertedTo n s) (hn : n ≤ s.cpu.cycles) :
    ClockRatio (finishIteration s) := (h.sync hn).drain

/-- The check and the trace line convert nothing. -/
theorem ConvertedTo.startIteration {n : Nat} {s u : State} (h : ConvertedTo n s)
    (hu : startIteration s = .hold u ∨ startIteration s = .run u) : ConvertedTo n u := by
  obtain ⟨paused, hs⟩ := startIteration_cases s
  rw [sampleDebug_host] at hs
  obtain hs | hs | hs := hs <;> rw [hs] at hu <;> obtain hu | hu := hu <;> cases hu <;> exact h

/-- Settles O59: up to `sync` no cycle is converted and the CPU's count only grows; `sync` and the drain convert what is owed. -/
theorem stepKeepsClockRatio : Obligations.StepKeepsClockRatio := by
  unfold Obligations.StepKeepsClockRatio
  intro s t h hstep
  rw [clockRatio_iff] at h
  obtain ⟨u, hu, hs⟩ | ⟨u, hu, hf⟩ := step_cases s
  · cases hstep.symm.trans hs
    rw [clockRatio_iff, startIteration_cpu (.inl hu)]
    exact h.startIteration (.inl hu)
  · have hfetched : ConvertedTo s.cpu.cycles (fetch u).2 := fetch_induct (convertedTo_kept _).read u (h.startIteration (.inr hu))
    have hcpu : (fetch u).2.cpu = s.cpu := (fetch_cpu u).trans (startIteration_cpu (.inr hu))
    obtain ⟨i, v, hv, hs⟩ | ⟨op, v, hv, hs⟩ := hf <;> rw [hv] at hfetched hcpu <;> cases hstep.symm.trans hs <;>
      rw [← hcpu] at hfetched
    · obtain ⟨hlow, -⟩ := (shape_good i).cost v
      exact ((convertedTo_kept _).shapeRun _ hfetched).finishIteration (Nat.le_of_add_right_le hlow)
    · have hreported : ConvertedTo v.cpu.cycles (reportIllegal op v) := hfetched
      exact hreported.finishIteration (Nat.le_add_right _ 2)

end Sys2Proof.Machine
end
